-- ==== Sys2Proof/Word.lean ====
section
/-! DEFINITION. The word types of PXSC (spec/00_scope.md R5, R6). All values are unsigned; bit 0 is the
least significant bit of every value. -/

namespace Sys2Proof

/-- One byte of the `DBByte` view (spec/20_memory.md R67). -/
abbrev Byte := BitVec 8

/-- A converted pixel: OUT_BITS = 16 (spec/00_scope.md R5). -/
abbrev Half := BitVec 16

/-- A host register (REG_BITS), a source pixel (PIX_BITS) or a source address (ADDR_BITS): 32 bits
(spec/00_scope.md R5). -/
abbrev Word := BitVec 32

/-- A sparse memory of one address space: addresses with their cells, each cell as wide as the space's
smallest addressable unit. `Memory 8` is `List Host.Cell`. Its operations are in Machine/Ops.lean. -/
abbrev Memory (w : Nat) := List (Nat × BitVec w)

end Sys2Proof
end

