-- ==== Sys2Proof/Syntax.lean ====
section
/-! DEFINITION. The syntax of PXSC: its nine commands (spec/30_encoding.md R91), its registers
(spec/10_state.md R21), what the agents around the scan engine do (spec/60_exceptions.md R191), and the
host script notation (spec/30_encoding.md R95, R96). -/

namespace Sys2Proof

/-- A command: one constructor per row of the opcode map (R91). No command has an operand field (R92). -/
inductive Instr where
  /-- NOP (spec/42_system.md R170). -/
  | nop
  /-- CONV: scalar conversion on lane 0 (spec/40_convert.md R113). -/
  | conv
  /-- CONVS: scalar conversion with byte swap on lane 0 (R114). -/
  | convs
  /-- CONV4: 4-wide conversion (R115). -/
  | conv4
  /-- CONV4S: 4-wide conversion with byte swap (R116). -/
  | conv4s
  /-- CROP: scan with strategy Crop (spec/41_scan.md R138). -/
  | crop
  /-- SCALE: scan with strategy ScaledNearest (R139). -/
  | scale
  /-- DECIM2: scan with strategy IntegerDecimate2x (R140). -/
  | decim2
  /-- RUN: scan with the strategy that CFG selects (R141). -/
  | run
  deriving DecidableEq, Repr

/-- The named registers of the register map (spec/10_state.md R21). -/
inductive Reg where
  | cmd | status | cfg | rmode | panelW | panelH | bufSize | srcBase | srcStride
  | pixIn (i : Fin 4)
  | pixOut (i : Fin 4)
  deriving DecidableEq, Repr

/-- What stands at an offset the register port carries: a named register, or a reserved offset (R37). -/
inductive Target where
  | reg (r : Reg)
  | reserved
  deriving DecidableEq, Repr

/-- The width of an access presented to the register port. The port carries `word` only
(spec/20_memory.md R61). -/
inductive Width where
  | byte | half | word
  deriving DecidableEq, Repr

/-- A range of pixel addresses, both ends included. -/
structure AddrRange where
  first : Word
  last : Word
  deriving DecidableEq, Repr

/-- One action of an agent (spec/60_exceptions.md R191). -/
inductive Input where
  /-- Host write at a byte offset of the register space (spec/42_system.md R171). -/
  | portWrite (width : Width) (offset : Nat) (data : Word)
  /-- Host read at a byte offset of the register space (R172). -/
  | portRead (width : Width) (offset : Nat)
  /-- The pseudo-instruction `wait`: read STATUS until BUSY reads 0 (spec/30_encoding.md R96). -/
  | waitIdle
  /-- `DBRead(i)` on the DB read port (spec/20_memory.md R67). -/
  | dbRead (i : Nat)
  /-- `DBByte(k)` on the DB read port (R67). -/
  | dbByte (k : Nat)
  /-- The scan engine has its turn (spec/41_scan.md R136). -/
  | engine
  /-- The producer stores pixel `p` at pixel address `a` (spec/20_memory.md R62). -/
  | produce (a : Word) (p : Word)
  /-- The platform now backs every source address outside `unbacked` (R63). -/
  | setBacking (unbacked : List AddrRange)
  /-- The platform applies reset (spec/70_reset_and_hazards.md R210). -/
  | reset
  deriving DecidableEq, Repr

/-- A line of the host script notation (spec/30_encoding.md R95), pseudo-instructions included (R96). -/
inductive Line where
  /-- `wr REG, value`. -/
  | wr (r : Reg) (value : Word)
  /-- `rd REG`. -/
  | rd (r : Reg)
  /-- `cmd MNEMONIC`. -/
  | cmd (i : Instr)
  /-- `cmdw value`. -/
  | cmdw (value : Word)
  /-- `db i`. -/
  | db (i : Nat)
  /-- `dbb k`. -/
  | dbb (k : Nat)
  /-- `wait`. -/
  | wait
  /-- `frame base, stride`. -/
  | frame (base stride : Word)
  /-- `clrerr`. -/
  | clrerr
  /-- `conv1 p`. -/
  | conv1 (p : Word)
  deriving DecidableEq, Repr

end Sys2Proof
end

