-- ==== Sys2Proof/Decode.lean ====
section
/-! DEFINITION. Decoding and encoding of command words (spec/30_encoding.md R90, R91, R93). -/

namespace Sys2Proof

/-- Why a word is illegal (R93). -/
inductive Illegal where
  /-- A bit of ZERO (31:8) is set. -/
  | zeroField
  /-- CLASS is 3 to 15. -/
  | classUnknown
  /-- FUNC names no function of its class. -/
  | funcUnknown
  deriving DecidableEq, Repr

/-- Field ZERO, bits 31:8 (R90). -/
def zeroField (w : Word) : BitVec 24 := w.extractLsb' 8 24
/-- Field CLASS, bits 7:4 (R90). -/
def classField (w : Word) : BitVec 4 := w.extractLsb' 4 4
/-- Field FUNC, bits 3:0 (R90). -/
def funcField (w : Word) : BitVec 4 := w.extractLsb' 0 4

/-- The command a word is, or why it is illegal (R91, R93). Every one of the 2^32 words is decided. -/
def decode (w : Word) : Except Illegal Instr :=
  if zeroField w ≠ 0 then .error .zeroField
  else
    match (classField w).toNat with
    | 0 =>
      match (funcField w).toNat with
      | 0 => .ok .nop
      | _ => .error .funcUnknown
    | 1 =>
      match (funcField w).toNat with
      | 0 => .ok .conv
      | 1 => .ok .convs
      | 2 => .ok .conv4
      | 3 => .ok .conv4s
      | _ => .error .funcUnknown
    | 2 =>
      match (funcField w).toNat with
      | 0 => .ok .crop
      | 1 => .ok .scale
      | 2 => .ok .decim2
      | 3 => .ok .run
      | _ => .error .funcUnknown
    | _ => .error .classUnknown

/-- A command word put together from its CLASS and FUNC, ZERO being 0 (R90). -/
def commandWord (cls func : BitVec 4) : Word := (0 : BitVec 24) ++ cls ++ func

/-- The word of a command (R91). -/
def encode : Instr → Word
  | .nop => commandWord 0 0
  | .conv => commandWord 1 0
  | .convs => commandWord 1 1
  | .conv4 => commandWord 1 2
  | .conv4s => commandWord 1 3
  | .crop => commandWord 2 0
  | .scale => commandWord 2 1
  | .decim2 => commandWord 2 2
  | .run => commandWord 2 3

/-- The command word whose low `nbits` bits are those of `w` and whose other bits are 0. A command is one
32-bit register value (R90) and is stored nowhere (spec/20_memory.md R78), so no byte order arises. -/
def tableWord (nbits w : Nat) : Word := BitVec.ofNat 32 (w % 2 ^ nbits)

/-- The command the decoder reads from a row of the opcode table; none where it refuses. -/
def decodeTableWord (nbits w : Nat) : Option Instr :=
  if w % 2 ^ nbits < 2 ^ 32 then (decode (tableWord nbits w)).toOption else none

end Sys2Proof
end

