-- ==== Sys2Proof/Config.lean ====
section
/-! DEFINITION. The constants of PXSC (spec/00_scope.md R5), fixed for every instance of the block
(spec/10_state.md R38). No value is left free: the spec leaves no result of a command open. -/

namespace Sys2Proof.Config

/-- SRC_W: source image width in pixels (R5). -/
def srcW : Nat := 240
/-- SRC_H: source image height in pixels (R5). -/
def srcH : Nat := 160
/-- PW(VariantA) (R5). -/
def panelWidthA : Nat := 184
/-- PH(VariantA) (R5). -/
def panelHeightA : Nat := 96
/-- PW(VariantB) (R5). -/
def panelWidthB : Nat := 160
/-- PH(VariantB) (R5). -/
def panelHeightB : Nat := 80
/-- DEC_W: width of the IntegerDecimate2x window, SRC_W / 2 (R5). -/
def decW : Nat := 120
/-- DEC_H: height of the IntegerDecimate2x window, SRC_H / 2 (R5). -/
def decH : Nat := 80
/-- DB_CAP: number of 16-bit entries of the DisplayBuffer storage (R5). -/
def dbCap : Nat := 17664
/-- REG_SPACE: size of the host register space in bytes (R5). -/
def regSpace : Nat := 256

end Sys2Proof.Config
end

