-- ==== Sys2Proof/Machine/Pixel.lean ====
section
/-! DEFINITION. The pixel converter's two functions (spec/40_convert.md R110, R111): pure, used by every
lane and by every scan (R112). -/

namespace Sys2Proof.Machine

/-- Red: 5 bits at bit 19 of the source pixel (R110). -/
def red (p : Word) : Word := (p >>> 19) &&& 0x1F
/-- Green: 6 bits at bit 10 (R110). -/
def green (p : Word) : Word := (p >>> 10) &&& 0x3F
/-- Blue: 5 bits at bit 3 (R110). -/
def blue (p : Word) : Word := (p >>> 3) &&& 0x1F

/-- `convert(p)` = (red << 11) | (green << 5) | blue, 16 bits (R110). -/
def convert (p : Word) : Half := ((red p <<< 11) ||| (green p <<< 5) ||| blue p).setWidth 16

/-- `swap16(v)` = ((v >> 8) | (v << 8)) & 0xFFFF (R111). -/
def swap16 (v : Half) : Half := (v >>> 8) ||| (v <<< 8)

/-- The byte-swapped converter variant, `swap16(convert(p))` (R111). -/
def convertSwapped (p : Word) : Half := swap16 (convert p)

end Sys2Proof.Machine
end

