-- ==== Sys2Proof/Machine/State.lean ====
section
/-! DEFINITION. The state of PXSC (spec/10_state.md R20 to R39) as plain data, the reasons a step can
stop, and the state after reset. -/

namespace Sys2Proof.Machine

/-- PanelVariant (spec/10_state.md R24, R25): the register field is one bit. DESIGN CHOICE (log 10): held
by name, unsafe only if the codes of R25 were wrong. -/
inductive PanelVariant where
  | variantA | variantB
  deriving DecidableEq, Repr

/-- RenderMode (R25). Code 3 is never produced, so L_MODE is held by name (log 10). -/
inductive RenderMode where
  | crop | scaledNearest | integerDecimate2x
  deriving DecidableEq, Repr

/-- Four lane registers of `w` bits (R31, R32). -/
structure Lanes (w : Nat) where
  lane0 : BitVec w
  lane1 : BitVec w
  lane2 : BitVec w
  lane3 : BitVec w
  deriving DecidableEq, Repr

/-- The three sticky error flags (spec/60_exceptions.md R180). -/
inductive ErrorFlag where
  | errIll | errBusy | errLock
  deriving DecidableEq, Repr

/-- What a read port hands back (spec/42_system.md R172, spec/20_memory.md R67). -/
inductive Reply where
  /-- The 32 bits of a host read. -/
  | register (v : Word)
  /-- The 16-bit entry of a `DBRead`. -/
  | entry (v : Half)
  /-- The byte of a `DBByte`. -/
  | byte (v : Byte)
  deriving DecidableEq, Repr

/-- Everything the spec gives the block (R20), then what stands for the agents around it (R38, log 1, 3,
4, 5). -/
structure State where
  /-- STATUS.BUSY (R23). -/
  busy : Bool
  /-- STATUS.LOCKED (R23, R26). -/
  locked : Bool
  /-- STATUS.ERR_ILL (R23). -/
  errIll : Bool
  /-- STATUS.ERR_BUSY (R23). -/
  errBusy : Bool
  /-- STATUS.ERR_LOCK (R23). -/
  errLock : Bool
  /-- CFG.VARIANT (R24). -/
  variant : PanelVariant
  /-- CFG.SCALED (R24). -/
  scaled : Bool
  /-- SRC_BASE (R29). -/
  srcBase : Word
  /-- SRC_STRIDE (R30). -/
  srcStride : Word
  /-- PIX_IN[0..3] (R31). -/
  pixIn : Lanes 32
  /-- PIX_OUT[0..3], the 16 bits stored (R32). -/
  pixOut : Lanes 16
  /-- L_BASE (R33). -/
  lBase : Word
  /-- L_STRIDE (R33). -/
  lStride : Word
  /-- L_MODE (R33). -/
  lMode : RenderMode
  /-- CX, the column of the next pixel step (R34). -/
  cx : BitVec 8
  /-- CY, the row of the next pixel step (R34). -/
  cy : BitVec 8
  /-- The DisplayBuffer (R36) as the bytes of its `DBByte` view (spec/20_memory.md R67, log 7): byte 2i
  is the low and byte 2i + 1 the high byte of entry i. -/
  db : List Host.Cell
  /-- The model's own: SrcMem, one 32-bit pixel an address (spec/20_memory.md R62, log 4). -/
  src : Memory 32
  /-- The model's own: the addresses for which SrcAdmit is false (spec/20_memory.md R63, log 5). -/
  unbacked : List AddrRange
  /-- The model's own: what the agents do next, in order (spec/60_exceptions.md R191, log 1). -/
  inputs : List Input
  /-- The model's own: what the port reads returned, newest first (log 3). -/
  replies : List Reply
  deriving DecidableEq, Repr

/-- Why the machine stops with a fault. -/
inductive Fault where
  /-- Raised by a pixel step whose source address the platform does not back: the step has no successor
  (spec/20_memory.md R63; spec/93_implementation_defined.md U1, treatment `stuck`). Safe. -/
  | sourceNotAdmitted
  /-- Raised by a pixel step whose DisplayBuffer index is not below DB_CAP, which "cannot occur"
  (spec/20_memory.md R66, log 8). Safe. -/
  | dbIndexOutOfRange
  deriving DecidableEq, Repr

/-- Why the machine refuses. -/
inductive Refusal where
  /-- Raised by an arm of `exec` whose command has no meaning yet; no arm is left. Safe. -/
  | notModelled (mnemonic : String)
  /-- Raised by a register-port access that is not an aligned 32-bit access at 0x00 to 0xFC
  (spec/20_memory.md R61; spec/93_implementation_defined.md U6). Safe. -/
  | accessNotOnPort
  /-- Raised by a `DBRead` or `DBByte` index the port does not have (spec/20_memory.md R67; U7). Safe. -/
  | indexNotOnDbPort
  deriving DecidableEq, Repr

/-- All four lanes hold the same value. -/
def Lanes.fill {w : Nat} (v : BitVec w) : Lanes w := ⟨v, v, v, v⟩

/-- The state after reset (spec/10_state.md R39, spec/70_reset_and_hazards.md R211): every register, flag,
latch and the cursor 0, every DisplayBuffer entry 0x0000. The last four fields are the model's own
(DESIGN CHOICE, logs 1, 3, 4, 5; unsafe for a claim about the run from this one state). -/
def State.reset : State where
  busy := false
  locked := false
  errIll := false
  errBusy := false
  errLock := false
  variant := .variantA
  scaled := false
  srcBase := 0
  srcStride := 0
  pixIn := Lanes.fill 0
  pixOut := Lanes.fill 0
  lBase := 0
  lStride := 0
  lMode := .crop
  cx := 0
  cy := 0
  db := []
  src := []
  unbacked := []
  inputs := []
  replies := []

end Sys2Proof.Machine
end

