-- ==== Sys2Proof/Machine/Operands.lean ====
section
/-! DEFINITION. The implicit operands of the commands (spec/30_encoding.md R92): the lanes, the geometry
and strategy that CFG gives, the index arithmetic of each strategy (spec/41_scan.md R130 to R134), the
source address (spec/20_memory.md R65) and the register map (spec/10_state.md R21). -/

namespace Sys2Proof.Machine

/-- `x[i]` (spec/00_scope.md R7). -/
def Lanes.get {w : Nat} (l : Lanes w) (i : Fin 4) : BitVec w :=
  match i with
  | 0 => l.lane0
  | 1 => l.lane1
  | 2 => l.lane2
  | 3 => l.lane3

/-- `x[i] <- v` (R7). -/
def Lanes.set {w : Nat} (l : Lanes w) (i : Fin 4) (v : BitVec w) : Lanes w :=
  match i with
  | 0 => { l with lane0 := v }
  | 1 => { l with lane1 := v }
  | 2 => { l with lane2 := v }
  | 3 => { l with lane3 := v }

/-- One function on each lane independently (spec/40_convert.md R112). -/
def Lanes.map {w v : Nat} (f : BitVec w → BitVec v) (l : Lanes w) : Lanes v :=
  ⟨f l.lane0, f l.lane1, f l.lane2, f l.lane3⟩

/-- PanelVariant's code is bit 0 of CFG: VariantA = 0, VariantB = 1 (spec/10_state.md R24, R25). -/
def PanelVariant.ofBit (b : Bool) : PanelVariant := if b then .variantB else .variantA

/-- The code of a variant as a bit (R25). -/
def PanelVariant.bit : PanelVariant → Bool
  | .variantA => false
  | .variantB => true

/-- The code of a RenderMode (R25). -/
def RenderMode.code : RenderMode → Word
  | .crop => 0
  | .scaledNearest => 1
  | .integerDecimate2x => 2

/-- PW (spec/00_scope.md R5, R8). -/
def panelWidth : PanelVariant → Nat
  | .variantA => Config.panelWidthA
  | .variantB => Config.panelWidthB

/-- PH (R5, R8). -/
def panelHeight : PanelVariant → Nat
  | .variantA => Config.panelHeightA
  | .variantB => Config.panelHeightB

/-- BUF = PW * PH, in 16-bit entries (R5, R8). -/
def bufSize (v : PanelVariant) : Nat := panelWidth v * panelHeight v

/-- The RenderMode the configuration selects (spec/41_scan.md R130). -/
def select (v : PanelVariant) (scaled : Bool) : RenderMode :=
  match v with
  | .variantB => .integerDecimate2x
  | .variantA => if scaled then .scaledNearest else .crop

/-- RW: the region's columns (R132, R133, R134). -/
def regionWidth (m : RenderMode) (v : PanelVariant) : Nat :=
  match m with
  | .crop => panelWidth v
  | .scaledNearest => panelWidth v
  | .integerDecimate2x => Config.decW

/-- RH: the region's rows (R132, R133, R134). -/
def regionHeight (m : RenderMode) (v : PanelVariant) : Nat :=
  match m with
  | .crop => panelHeight v
  | .scaledNearest => panelHeight v
  | .integerDecimate2x => Config.decH

/-- COFF_X = (240 - PW) / 2, truncating (R132). -/
def cropOffsetX (v : PanelVariant) : Nat := (Config.srcW - panelWidth v) / 2
/-- COFF_Y = (160 - PH) / 2, truncating (R132). -/
def cropOffsetY (v : PanelVariant) : Nat := (Config.srcH - panelHeight v) / 2
/-- DOFF_X = (PW - 120) / 2, truncating; DOFF_Y is 0 (R134). -/
def decimOffsetX (v : PanelVariant) : Nat := (panelWidth v - Config.decW) / 2

/-- sx: the source column of region column `x` (R132, R133 exact product then floor, R134). -/
def sourceX (m : RenderMode) (v : PanelVariant) (x : Nat) : Nat :=
  match m with
  | .crop => x + cropOffsetX v
  | .scaledNearest => (x * Config.srcW) / panelWidth v
  | .integerDecimate2x => 2 * x

/-- sy: the source row of region row `y` (R132, R133, R134). -/
def sourceY (m : RenderMode) (v : PanelVariant) (y : Nat) : Nat :=
  match m with
  | .crop => y + cropOffsetY v
  | .scaledNearest => (y * Config.srcH) / panelHeight v
  | .integerDecimate2x => 2 * y

/-- di: the DisplayBuffer index of region position (x, y) (R132, R133, R134). -/
def dbIndex (m : RenderMode) (v : PanelVariant) (x y : Nat) : Nat :=
  match m with
  | .crop => y * panelWidth v + x
  | .scaledNearest => y * panelWidth v + x
  | .integerDecimate2x => y * panelWidth v + decimOffsetX v + x

/-- cv: the converter variant of a strategy (R132, R133, R134). -/
def converterOf : RenderMode → Word → Half
  | .crop => convert
  | .scaledNearest => convert
  | .integerDecimate2x => convertSwapped

/-- addr(sx, sy) = (L_BASE + ((sy * L_STRIDE) mod 2^32) + sx) mod 2^32 (spec/20_memory.md R65). -/
def sourceAddress (base stride : Word) (sx sy : Nat) : Word :=
  BitVec.ofNat 32 (base.toNat + (sy * stride.toNat) % 2 ^ 32 + sx)

/-- The address that the pixel step at region position (x, y) of the latched scan reads (R65, R136). -/
def scanAddress (s : State) (x y : Nat) : Word :=
  sourceAddress s.lBase s.lStride (sourceX s.lMode s.variant x) (sourceY s.lMode s.variant y)

/-- The register map: offset and register (spec/10_state.md R21). -/
def registerMap : List (Nat × Reg) :=
  [(0x00, .cmd), (0x04, .status), (0x08, .cfg), (0x0C, .rmode),
   (0x10, .panelW), (0x14, .panelH), (0x18, .bufSize),
   (0x20, .srcBase), (0x24, .srcStride),
   (0x30, .pixIn 0), (0x34, .pixIn 1), (0x38, .pixIn 2), (0x3C, .pixIn 3),
   (0x40, .pixOut 0), (0x44, .pixOut 1), (0x48, .pixOut 2), (0x4C, .pixOut 3)]

/-- The offset of a register (R21). -/
def registerOffset : Reg → Nat
  | .cmd => 0x00
  | .status => 0x04
  | .cfg => 0x08
  | .rmode => 0x0C
  | .panelW => 0x10
  | .panelH => 0x14
  | .bufSize => 0x18
  | .srcBase => 0x20
  | .srcStride => 0x24
  | .pixIn i => 0x30 + 4 * i.val
  | .pixOut i => 0x40 + 4 * i.val

/-- What stands at an offset of the port; an offset outside the map is reserved (R37). -/
def targetAt (offset : Nat) : Target :=
  match registerMap.lookup offset with
  | some r => .reg r
  | none => .reserved

/-- What an access of the register port reaches: aligned 32-bit accesses at 0x00 to 0xFC only
(spec/20_memory.md R61). -/
def portTarget (width : Width) (offset : Nat) : Option Target :=
  match width with
  | .byte => none
  | .half => none
  | .word =>
    if offset % 4 = 0 ∧ offset < Config.regSpace then some (targetAt offset) else none

end Sys2Proof.Machine
end

