-- ==== Sys2Proof/Machine/Flags.lean ====
section
/-! DEFINITION. The flags of PXSC and the registers put together from fields: STATUS and CFG
(spec/10_state.md R23, R24). There are no arithmetic condition codes (R35). -/

namespace Sys2Proof.Machine

/-- A word whose bit `n` is `b` and whose other bits are 0. -/
def bitAt (n : Nat) (b : Bool) : Word := if b then (1 : Word) <<< n else 0

/-- What a read of STATUS returns (spec/42_system.md R172): reserved bits read 0 (R23). -/
def statusWord (s : State) : Word :=
  bitAt 0 s.busy ||| bitAt 1 s.locked ||| bitAt 8 s.errIll ||| bitAt 9 s.errBusy ||| bitAt 10 s.errLock

/-- What a read of CFG returns (R172): reserved bits read 0 (R24). -/
def cfgWord (s : State) : Word := bitAt 0 s.variant.bit ||| bitAt 1 s.scaled

/-- One error flag (spec/60_exceptions.md R180). -/
def errorFlag (e : ErrorFlag) (s : State) : Bool :=
  match e with
  | .errIll => s.errIll
  | .errBusy => s.errBusy
  | .errLock => s.errLock

end Sys2Proof.Machine
end

