-- ==== Sys2Proof/Machine/Ops.lean ====
section
/-! DEFINITION. The named operations over memory and registers: the sparse memories in canonical form,
the DisplayBuffer and its two read views, source reads, raising and acknowledging an error, the CMD guard,
the CFG write, and a scan's acceptance. -/

namespace Sys2Proof.Machine

/-- What an unlisted address reads as: 0. For the DisplayBuffer this is its reset value
(spec/10_state.md R39); for source memory the spec gives no contents: DESIGN CHOICE, unsafe (log 4). -/
def unlisted (w : Nat) : BitVec w := 0

/-- Canonical form: addresses strictly rising, no cell equal to what an unlisted address reads as. -/
abbrev Memory.wf {w : Nat} (m : Memory w) : Prop :=
  m.Pairwise (fun c d => c.1 < d.1) ∧ ∀ c ∈ m, c.2 ≠ unlisted w

/-- The cell at an address. -/
def Memory.read {w : Nat} (m : Memory w) (a : Nat) : BitVec w :=
  match m.find? (fun c => c.1 == a) with
  | some c => c.2
  | none => unlisted w

/-- Write one cell, keeping the canonical form: the cell goes between the lower and the higher addresses,
and is left out when it equals what an unlisted address reads as. -/
def Memory.write {w : Nat} (m : Memory w) (a : Nat) (v : BitVec w) : Memory w :=
  m.filter (fun c => decide (c.1 < a)) ++ (if v = unlisted w then [] else [(a, v)]) ++
    m.filter (fun c => decide (a < c.1))

/-- `DBByte(k)`: the little-endian byte view (spec/20_memory.md R67). -/
def dbByte (k : Nat) (s : State) : Byte := Memory.read s.db k

/-- `DB[i]`, `DBRead(i)`: the high byte of an entry has the higher byte index (R66, R67). -/
def dbRead (i : Nat) (s : State) : Half := dbByte (2 * i + 1) s ++ dbByte (2 * i) s

/-- `DB[i] <- v`: the whole entry in one action (R66). -/
def dbWrite (i : Nat) (v : Half) (s : State) : State :=
  { s with db := Memory.write (Memory.write s.db (2 * i) (v.extractLsb' 0 8)) (2 * i + 1) (v.extractLsb' 8 8) }

/-- The frame payload: `DBByte(0)` to `DBByte(2 * BUF - 1)` (spec/20_memory.md R79). -/
def framePayload (s : State) : List Byte := (List.range (2 * bufSize s.variant)).map (dbByte · s)

/-- `SrcMem(a)` (R62). -/
def srcMem (a : Word) (s : State) : Word := Memory.read s.src a.toNat

/-- `SrcAdmit(a)` (R63). -/
def srcAdmit (a : Word) (s : State) : Bool :=
  s.unbacked.all fun r => decide (¬(r.first ≤ a ∧ a ≤ r.last))

/-- `SrcRead(a)`: one whole pixel, or nothing where the address is not backed (R63, R64). -/
def srcRead (a : Word) (s : State) : Option Word := if srcAdmit a s then some (srcMem a s) else none

/-- The producer's store of one whole pixel (R62, R64). -/
def producePixel (a p : Word) (s : State) : State := { s with src := Memory.write s.src a.toNat p }

/-- `raise <Error>`: set the named flag, change nothing else (spec/60_exceptions.md R182). This is all that
taking an error does on PXSC: nothing is saved and control goes nowhere (R180, R188). -/
def raiseError (e : ErrorFlag) (s : State) : State :=
  { s with
    errIll := s.errIll || e == .errIll
    errBusy := s.errBusy || e == .errBusy
    errLock := s.errLock || e == .errLock }

/-- Acknowledging errors, the only counterpart of a return (R189): a host write of `w` to STATUS clears the
flags whose bits 8, 9, 10 are written as 1 and does nothing else (spec/10_state.md R23). -/
def ackErrors (w : Word) (s : State) : State :=
  { s with
    errIll := s.errIll && !w.getLsbD 8
    errBusy := s.errBusy && !w.getLsbD 9
    errLock := s.errLock && !w.getLsbD 10 }

/-- A host write of `w` to CFG while LOCKED = 0 (R26). -/
def setCfg (w : Word) (s : State) : State :=
  { s with variant := PanelVariant.ofBit (w.getLsbD 0), scaled := w.getLsbD 1 }

/-- A host write of `w` to CFG (R26; spec/60_exceptions.md R185). -/
def writeCfg (w : Word) (s : State) : State :=
  if s.locked then raiseError .errLock s else setCfg w s

/-- The PIX_OUT registers become `lanes`, all together (spec/20_memory.md R70). -/
def setPixOut (lanes : Lanes 16) (s : State) : State := { s with pixOut := lanes }

/-- Acceptance of a scan with strategy `m` (spec/41_scan.md R135). -/
def acceptScan (m : RenderMode) (s : State) : State :=
  { s with
    lMode := m
    lBase := s.srcBase
    lStride := s.srcStride
    cx := 0
    cy := 0
    busy := true
    locked := true }

/-- The cursor after a pixel step, and BUSY cleared by the last one (R34, R136, R137). -/
def advanceCursor (s : State) : State :=
  let cx := s.cx + 1
  let wraps := cx.toNat = regionWidth s.lMode s.variant
  let cy := if wraps then s.cy + 1 else s.cy
  { s with
    cx := if wraps then 0 else cx
    cy := cy
    busy := s.busy && decide (cy.toNat ≠ regionHeight s.lMode s.variant) }

/-- A command's effect under the check that precedes it: while BUSY = 1 the write raises ERR_BUSY and has
no other effect (spec/30_encoding.md R94; spec/60_exceptions.md R183). -/
def unlessBusy (effect : State → State) (s : State) : Host.Outcome State Fault Refusal :=
  .next (if s.busy then raiseError .errBusy s else effect s)

/-- A read port hands `r` back; the block itself is unchanged (spec/42_system.md R172). -/
def answer (r : Reply) (s : State) : State := { s with replies := r :: s.replies }

/-- Reset puts every piece of the block's state into its reset value and does not touch what is not the
block's: source memory, the platform's backing, the agents' further actions and what was already read
(spec/70_reset_and_hazards.md R210, R211, log 14). -/
def applyReset (s : State) : State :=
  { State.reset with src := s.src, unbacked := s.unbacked, inputs := s.inputs, replies := s.replies }

end Sys2Proof.Machine
end

