-- ==== Sys2Proof/Machine/Convert.lean ====
section
/-! DEFINITION. The converter commands (spec/40_convert.md R113 to R116). They complete within the CMD
write (spec/30_encoding.md R94). -/

namespace Sys2Proof.Machine

/-- One conversion on lane 0; lanes 1 to 3 keep their values (R113, R114). -/
def convertLane0 (f : Word → Half) (s : State) : State :=
  setPixOut (s.pixOut.set 0 (f (s.pixIn.get 0))) s

/-- One conversion on each of the four lanes, all writes together (R112, R115, R116). -/
def convertLanes (f : Word → Half) (s : State) : State := setPixOut (s.pixIn.map f) s

/-- CONV: PIX_OUT[0] <- convert(PIX_IN[0]) (R113). -/
def execConv (s : State) : Host.Outcome State Fault Refusal := unlessBusy (convertLane0 convert) s

/-- CONVS: PIX_OUT[0] <- swap16(convert(PIX_IN[0])) (R114). -/
def execConvs (s : State) : Host.Outcome State Fault Refusal := unlessBusy (convertLane0 convertSwapped) s

/-- CONV4: PIX_OUT[i] <- convert(PIX_IN[i]) for i in 0..3 (R115). -/
def execConv4 (s : State) : Host.Outcome State Fault Refusal := unlessBusy (convertLanes convert) s

/-- CONV4S: PIX_OUT[i] <- swap16(convert(PIX_IN[i])) for i in 0..3 (R116). -/
def execConv4s (s : State) : Host.Outcome State Fault Refusal := unlessBusy (convertLanes convertSwapped) s

end Sys2Proof.Machine
end

