-- ==== Sys2Proof/Machine/Scan.lean ====
section
/-! DEFINITION. The scan commands (spec/41_scan.md R138 to R141), accepted within the CMD write (R135), and
the scan engine's pixel step (R136), by which an accepted scan then runs. -/

namespace Sys2Proof.Machine

/-- CROP: acceptance with m = Crop (R138). -/
def execCrop (s : State) : Host.Outcome State Fault Refusal := unlessBusy (acceptScan .crop) s

/-- SCALE: acceptance with m = ScaledNearest (R139). -/
def execScale (s : State) : Host.Outcome State Fault Refusal := unlessBusy (acceptScan .scaledNearest) s

/-- DECIM2: acceptance with m = IntegerDecimate2x (R140). -/
def execDecim2 (s : State) : Host.Outcome State Fault Refusal := unlessBusy (acceptScan .integerDecimate2x) s

/-- RUN: acceptance with m = select(CFG.VARIANT, CFG.SCALED), chosen once, here (R141). -/
def execRun (s : State) : Host.Outcome State Fault Refusal :=
  unlessBusy (fun s => acceptScan (select s.variant s.scaled) s) s

/-- The pixel step at (CX, CY): one source read, one DisplayBuffer write, the cursor advanced (R136). A
source address that is not backed leaves the step without a successor (spec/20_memory.md R63). -/
def pixelStep (s : State) : Host.Outcome State Fault Refusal :=
  match srcRead (scanAddress s s.cx.toNat s.cy.toNat) s with
  | none => .fault .sourceNotAdmitted
  | some p =>
    let di := dbIndex s.lMode s.variant s.cx.toNat s.cy.toNat
    if di < Config.dbCap then
      .next (advanceCursor (dbWrite di (converterOf s.lMode p) s))
    else .fault .dbIndexOutOfRange

/-- The next pixel step has a successor: its source address is backed (spec/20_memory.md R63). -/
def pixelStepAdmitted (s : State) : Bool := srcAdmit (scanAddress s s.cx.toNat s.cy.toNat) s

/-- The scan engine's turn: a pixel step while BUSY = 1, no step while BUSY = 0
(spec/60_exceptions.md R191). -/
def engineTurn (s : State) : Host.Outcome State Fault Refusal :=
  if s.busy then pixelStep s else .next s

end Sys2Proof.Machine
end

