-- ==== Sys2Proof/Machine/System.lean ====
section
/-! DEFINITION. The system command (spec/42_system.md R170). -/

namespace Sys2Proof.Machine

/-- NOP: nothing; ERR_BUSY while BUSY = 1 (R170). -/
def execNop (s : State) : Host.Outcome State Fault Refusal := unlessBusy (fun s => s) s

end Sys2Proof.Machine
end

