-- ==== Sys2Proof/Machine/Dispatch.lean ====
section
/-! DEFINITION. One arm per command. -/

namespace Sys2Proof.Machine

def exec (i : Instr) (s : State) : Host.Outcome State Fault Refusal :=
  match i with
  | .nop => Sys2Proof.Machine.execNop s
  | .conv => Sys2Proof.Machine.execConv s
  | .convs => Sys2Proof.Machine.execConvs s
  | .conv4 => Sys2Proof.Machine.execConv4 s
  | .conv4s => Sys2Proof.Machine.execConv4s s
  | .crop => Sys2Proof.Machine.execCrop s
  | .scale => Sys2Proof.Machine.execScale s
  | .decim2 => Sys2Proof.Machine.execDecim2 s
  | .run => Sys2Proof.Machine.execRun s

end Sys2Proof.Machine
end

