-- ==== Sys2Proof/Machine/Port.lean ====
section
/-! DEFINITION. What each agent's action does: host register writes and reads (spec/42_system.md R171,
R172), the DB read port (spec/20_memory.md R67), the engine's turn, the producer, the platform. -/

namespace Sys2Proof.Machine

/-- A host write of `w` to CMD (spec/30_encoding.md R94): BUSY first, then legality, then the command. -/
def issueCommand (w : Word) (s : State) : Host.Outcome State Fault Refusal :=
  if s.busy then .next (raiseError .errBusy s)
  else
    match decode w with
    | .error _ => .next (raiseError .errIll s)
    | .ok i => exec i s

/-- A host write of `w` to a register (R171). -/
def writeRegister (r : Reg) (w : Word) (s : State) : Host.Outcome State Fault Refusal :=
  match r with
  | .cmd => issueCommand w s
  | .status => .next (ackErrors w s)
  | .cfg => .next (writeCfg w s)
  | .rmode => .next s
  | .panelW => .next s
  | .panelH => .next s
  | .bufSize => .next s
  | .srcBase => .next { s with srcBase := w }
  | .srcStride => .next { s with srcStride := w }
  | .pixIn i => .next { s with pixIn := s.pixIn.set i w }
  | .pixOut _ => .next s

/-- The value a host read of a register returns (R172). -/
def readRegister (r : Reg) (s : State) : Word :=
  match r with
  | .cmd => 0
  | .status => statusWord s
  | .cfg => cfgWord s
  | .rmode => (select s.variant s.scaled).code
  | .panelW => BitVec.ofNat 32 (panelWidth s.variant)
  | .panelH => BitVec.ofNat 32 (panelHeight s.variant)
  | .bufSize => BitVec.ofNat 32 (Machine.bufSize s.variant)
  | .srcBase => s.srcBase
  | .srcStride => s.srcStride
  | .pixIn i => s.pixIn.get i
  | .pixOut i => (s.pixOut.get i).setWidth 32

/-- A host write at what stands at an offset; a reserved offset ignores it (R171, spec/10_state.md R37). -/
def writeTarget (t : Target) (w : Word) (s : State) : Host.Outcome State Fault Refusal :=
  match t with
  | .reg r => writeRegister r w s
  | .reserved => .next s

/-- A host read of what stands at an offset; a reserved offset reads 0 (R172, R37). -/
def readTarget (t : Target) (s : State) : Word :=
  match t with
  | .reg r => readRegister r s
  | .reserved => 0

/-- A write presented to the register port (spec/20_memory.md R61). -/
def portWrite (width : Width) (offset : Nat) (w : Word) (s : State) : Host.Outcome State Fault Refusal :=
  match portTarget width offset with
  | none => .refused .accessNotOnPort
  | some t => writeTarget t w s

/-- A read presented to the register port (R61). -/
def portRead (width : Width) (offset : Nat) (s : State) : Host.Outcome State Fault Refusal :=
  match portTarget width offset with
  | none => .refused .accessNotOnPort
  | some t => .next (answer (.register (readTarget t s)) s)

/-- `DBRead(i)` on the port (spec/20_memory.md R67). -/
def dbReadPort (i : Nat) (s : State) : Host.Outcome State Fault Refusal :=
  if i < Config.dbCap then .next (answer (.entry (dbRead i s)) s) else .refused .indexNotOnDbPort

/-- `DBByte(k)` on the port (R67). -/
def dbBytePort (k : Nat) (s : State) : Host.Outcome State Fault Refusal :=
  if k < 2 * Config.dbCap then .next (answer (.byte (dbByte k s)) s) else .refused .indexNotOnDbPort

/-- The action is of an agent other than the one that reads the ports: such an agent goes on while a host
polls (spec/60_exceptions.md R191; spec/93_implementation_defined.md U1, U5). -/
def actsDuringWait (e : Input) : Bool :=
  match e with
  | .engine => true
  | .produce _ _ => true
  | .setBacking _ => true
  | .reset => true
  | .portWrite _ _ _ => false
  | .portRead _ _ => false
  | .waitIdle => false
  | .dbRead _ => false
  | .dbByte _ => false

/-- The actions that follow a read of STATUS by `wait` that shows BUSY = 1: the read is repeated
(spec/30_encoding.md R96). Before it comes one step of another agent: the action waiting, where it is
another agent's, else a pixel step. A pixel step that has no successor does not happen, and the host reads
again (U1). DESIGN CHOICE of the interleaving (log 12). -/
def pollAgain (s : State) : List Input :=
  if s.inputs.head?.any actsDuringWait then s.inputs.take 1 ++ .waitIdle :: s.inputs.drop 1
  else if pixelStepAdmitted s then .engine :: .waitIdle :: s.inputs
  else .waitIdle :: s.inputs

/-- One round of `wait`: read STATUS, and while it shows BUSY = 1 poll again (R96). -/
def pollStatus (s : State) : State :=
  { answer (.register (statusWord s)) s with inputs := if s.busy then pollAgain s else s.inputs }

/-- One action of an agent (spec/60_exceptions.md R191). -/
def perform (e : Input) (s : State) : Host.Outcome State Fault Refusal :=
  match e with
  | .portWrite width offset w => portWrite width offset w s
  | .portRead width offset => portRead width offset s
  | .waitIdle => .next (pollStatus s)
  | .dbRead i => dbReadPort i s
  | .dbByte k => dbBytePort k s
  | .engine => engineTurn s
  | .produce a p => .next (producePixel a p s)
  | .setBacking unbacked => .next { s with unbacked := unbacked }
  | .reset => .next (applyReset s)

end Sys2Proof.Machine
end

