-- ==== Sys2Proof/Machine/Script.lean ====
section
/-! DEFINITION. The host script notation as actions on the ports (spec/30_encoding.md R95, R96). -/

namespace Sys2Proof.Machine

/-- The bus transaction `W <offset of REG> <value>` (R95). -/
def writeAction (r : Reg) (v : Word) : Input := .portWrite .word (registerOffset r) v

/-- The bus transaction `R <offset of REG>` (R95). -/
def readAction (r : Reg) : Input := .portRead .word (registerOffset r)

/-- The actions of one script line (R95), pseudo-instructions expanded (R96). -/
def lineActions : Line → List Input
  | .wr r v => [writeAction r v]
  | .rd r => [readAction r]
  | .cmd i => [writeAction .cmd (encode i)]
  | .cmdw v => [writeAction .cmd v]
  | .db i => [.dbRead i]
  | .dbb k => [.dbByte k]
  | .wait => [.waitIdle]
  | .frame base stride => [writeAction .srcBase base, writeAction .srcStride stride]
  | .clrerr => [writeAction .status 0x00000700]
  | .conv1 p => [writeAction (.pixIn 0) p, writeAction .cmd (encode .conv), readAction (.pixOut 0)]

/-- The actions of a script, line after line (R95). -/
def scriptActions (lines : List Line) : List Input := lines.flatMap lineActions

end Sys2Proof.Machine
end

