-- ==== Sys2Proof/Machine/Step.lean ====
section
/-! DEFINITION. One step: the next action of the agents, and, when none is left, the scan engine's turn
(spec/60_exceptions.md R191; spec/70_reset_and_hazards.md R229). -/

namespace Sys2Proof.Machine

/-- One step of the machine. With no action left a running scan takes its next pixel step (R229, weak
fairness) and an idle block stays as it is (logs 1, 11). -/
def step (s : State) : Host.Outcome State Fault Refusal :=
  match s.inputs with
  | [] => engineTurn s
  | e :: rest => perform e { s with inputs := rest }

/-- The state in which the host's next action is the CMD write of the table word (log 2): PXSC fetches
nothing, a command is supplied by a host write (spec/10_state.md R34). -/
def State.withFetchWord (s : State) (nbits w : Nat) : State :=
  { s with inputs := .portWrite .word 0x00 (tableWord nbits w) :: s.inputs }

end Sys2Proof.Machine
end

