-- ==== Sys2Proof/Safety.lean ====
section
/-! DEFINITION. The terms in which claims about runs are made: the next action, the invariant of every
reachable state, and how far a running scan has got. -/

namespace Sys2Proof.Machine

/-- `s` with `e` as the agents' next action. Every state whose `inputs` are not empty has this form. -/
def State.before (s : State) (e : Input) : State := { s with inputs := e :: s.inputs }

/-- A host read at an offset hands back `v` and changes nothing of the block (spec/42_system.md R172). -/
def State.ReadsAs (s : State) (offset : Nat) (v : Word) : Prop :=
  step (s.before (.portRead .word offset)) = .next { s with replies := .register v :: s.replies }

/-- What every state a run can reach satisfies. -/
structure State.Inv (s : State) : Prop where
  /-- BUSY = 1 implies LOCKED = 1 (spec/10_state.md R26). -/
  busy_locked : s.busy = true → s.locked = true
  /-- While BUSY = 1 the cursor is inside the strategy's region (R34). -/
  cursor_column : s.busy = true → s.cx.toNat < regionWidth s.lMode s.variant
  cursor_row : s.busy = true → s.cy.toNat < regionHeight s.lMode s.variant
  /-- The DisplayBuffer is in canonical form and lists no byte beyond the frame of the variant in CFG
  (R36; spec/70_reset_and_hazards.md R228). -/
  db_wf : Memory.wf s.db
  db_frame : ∀ c ∈ s.db, c.1 < 2 * bufSize s.variant
  /-- Until the first scan is accepted the DisplayBuffer is as reset left it (R36, R212). -/
  db_unlocked : s.locked = false → s.db = []
  /-- Source memory is in canonical form, within its 2^32 addresses (spec/20_memory.md R60). -/
  src_wf : Memory.wf s.src
  src_space : ∀ c ∈ s.src, c.1 < 2 ^ 32

/-- The platform backs every source address that the latched scan reads (spec/93_implementation_defined.md
U1). -/
def State.AdmitsScan (s : State) : Prop :=
  ∀ x y, x < regionWidth s.lMode s.variant → y < regionHeight s.lMode s.variant →
    srcAdmit (scanAddress s x y) s = true

/-- The entry of region position (x, y) holds the conversion of its source pixel (spec/41_scan.md R145). -/
def State.Written (s : State) (x y : Nat) : Prop :=
  dbRead (dbIndex s.lMode s.variant x y) s = converterOf s.lMode (srcMem (scanAddress s x y) s)

/-- Every region position before the cursor, in row-major order (spec/10_state.md R34), is written. -/
def State.WrittenSoFar (s : State) : Prop :=
  ∀ x y, x < regionWidth s.lMode s.variant →
    (y < s.cy.toNat ∨ (y = s.cy.toNat ∧ x < s.cx.toNat)) → s.Written x y

/-- Every region position is written. -/
def State.FrameWritten (s : State) : Prop :=
  ∀ x y, x < regionWidth s.lMode s.variant → y < regionHeight s.lMode s.variant → s.Written x y

/-- Outside the IntegerDecimate2x window the DisplayBuffer is as reset left it, and no other strategy is
running (spec/41_scan.md R142; spec/70_reset_and_hazards.md R223). -/
def State.BordersZero (s : State) : Prop :=
  (s.busy = true → s.lMode = .integerDecimate2x) ∧
  ∀ i, (∀ x y, x < 120 → y < 80 → i ≠ dbIndex .integerDecimate2x s.variant x y) → dbRead i s = 0

/-- The DisplayBuffer `after` a scan with strategy `m` on variant `v` whose source pixel (sx, sy) is
`S sx sy`, entry by entry, given the one `before` it (spec/41_scan.md R145). -/
def ScanResult (m : RenderMode) (v : PanelVariant) (S : Nat → Nat → Word) (before after : State) : Prop :=
  (match m with
    | .crop => ∀ x y, x < panelWidth v → y < panelHeight v →
        dbRead (y * panelWidth v + x) after =
          convert (S (x + (240 - panelWidth v) / 2) (y + (160 - panelHeight v) / 2))
    | .scaledNearest => ∀ x y, x < panelWidth v → y < panelHeight v →
        dbRead (y * panelWidth v + x) after = convert (S (x * 240 / panelWidth v) (y * 160 / panelHeight v))
    | .integerDecimate2x => ∀ x y, x < 120 → y < 80 →
        dbRead (y * panelWidth v + (panelWidth v - 120) / 2 + x) after = swap16 (convert (S (2 * x) (2 * y)))) ∧
  ∀ i, (∀ x y, x < regionWidth m v → y < regionHeight m v → i ≠ dbIndex m v x y) →
    dbRead i after = dbRead i before

/-- `S(sx, sy)` of R145: source memory of `s` at (base + sy * stride + sx) mod 2^32. -/
def sourceImage (base stride : Word) (s : State) (sx sy : Nat) : Word :=
  srcMem (BitVec.ofNat 32 (base.toNat + sy * stride.toNat + sx)) s

end Sys2Proof.Machine
end

