-- ==== Sys2Proof/WellFormed.lean ====
section
/-! DEFINITION. Which terms of the syntax stand for something PXSC has. A command carries no operand, so
every command is well formed; an access must be one its port carries (spec/20_memory.md R61, R67). -/

namespace Sys2Proof

/-- Every command is well formed: no command has a variable field (spec/30_encoding.md R91, R92). -/
def Instr.wf : Instr → Bool
  | .nop => true
  | .conv => true
  | .convs => true
  | .conv4 => true
  | .conv4s => true
  | .crop => true
  | .scale => true
  | .decim2 => true
  | .run => true

/-- The register port carries aligned 32-bit accesses at offsets 0x00 to 0xFC only (R61). -/
def portAccessWf (width : Width) (offset : Nat) : Bool :=
  width == .word && offset % 4 == 0 && decide (offset < Config.regSpace)

/-- An action is well formed when the port it names carries it (R61, R67). -/
def Input.wf : Input → Bool
  | .portWrite width offset _ => portAccessWf width offset
  | .portRead width offset => portAccessWf width offset
  | .waitIdle => true
  | .dbRead i => decide (i < Config.dbCap)
  | .dbByte k => decide (k < 2 * Config.dbCap)
  | .engine => true
  | .produce _ _ => true
  | .setBacking _ => true
  | .reset => true

/-- A script line is well formed when its actions are (spec/30_encoding.md R95). -/
def Line.wf : Line → Bool
  | .wr _ _ => true
  | .rd _ => true
  | .cmd i => i.wf
  | .cmdw _ => true
  | .db i => decide (i < Config.dbCap)
  | .dbb k => decide (k < 2 * Config.dbCap)
  | .wait => true
  | .frame _ _ => true
  | .clrerr => true
  | .conv1 _ => true

end Sys2Proof
end

