-- ==== Sys2Proof/Certificates/Slice0/Obligations.lean ====
section
/-! DEFINITION. The statements for the provers, in the order of the spec's files. `s.before e` is `s` with
`e` as the next action, so a statement about `step (s.before e)` for every `s` is about every state whose
next action is `e`. -/

open Sys2Proof Sys2Proof.Machine

/-! ## Encoding -/

/-- The nine words of spec/30_encoding.md R91, bit for bit, decode to their commands. -/
def Obligations.CommandWordsDecodeAsTabled : Prop :=
  decode 0b00000000000000000000000000000000 = .ok .nop ∧
  decode 0b00000000000000000000000000010000 = .ok .conv ∧
  decode 0b00000000000000000000000000010001 = .ok .convs ∧
  decode 0b00000000000000000000000000010010 = .ok .conv4 ∧
  decode 0b00000000000000000000000000010011 = .ok .conv4s ∧
  decode 0b00000000000000000000000000100000 = .ok .crop ∧
  decode 0b00000000000000000000000000100001 = .ok .scale ∧
  decode 0b00000000000000000000000000100010 = .ok .decim2 ∧
  decode 0b00000000000000000000000000100011 = .ok .run

/-- R91: a word is the command of a row exactly when it matches the row in all 32 bits; the FUNC[1:0] codes
of CROP, SCALE and DECIM2 equal the RenderMode codes. -/
def Obligations.WordIsACommandExactlyWhenItMatches : Prop :=
  (∀ w : Word,
    (decode w = .ok .nop ↔ w &&& 0xFFFFFFFF = 0x00000000) ∧
    (decode w = .ok .conv ↔ w &&& 0xFFFFFFFF = 0x00000010) ∧
    (decode w = .ok .convs ↔ w &&& 0xFFFFFFFF = 0x00000011) ∧
    (decode w = .ok .conv4 ↔ w &&& 0xFFFFFFFF = 0x00000012) ∧
    (decode w = .ok .conv4s ↔ w &&& 0xFFFFFFFF = 0x00000013) ∧
    (decode w = .ok .crop ↔ w &&& 0xFFFFFFFF = 0x00000020) ∧
    (decode w = .ok .scale ↔ w &&& 0xFFFFFFFF = 0x00000021) ∧
    (decode w = .ok .decim2 ↔ w &&& 0xFFFFFFFF = 0x00000022) ∧
    (decode w = .ok .run ↔ w &&& 0xFFFFFFFF = 0x00000023)) ∧
  (encode .crop).extractLsb' 0 2 = RenderMode.crop.code.setWidth 2 ∧
  (encode .scale).extractLsb' 0 2 = RenderMode.scaledNearest.code.setWidth 2 ∧
  (encode .decim2).extractLsb' 0 2 = RenderMode.integerDecimate2x.code.setWidth 2

/-- R90, R91: decoding and encoding agree on the whole instruction set: every well-formed command decodes
from its word, no other word decodes to it, and two commands never share a word. -/
def Obligations.DecodeAndEncodeAgree : Prop :=
  (∀ i : Instr, i.wf = true → decode (encode i) = .ok i) ∧
  (∀ (w : Word) (i : Instr), decode w = .ok i → encode i = w) ∧
  (∀ i j : Instr, encode i = encode j → i = j) ∧
  ∀ (w : Nat) (i : Instr), decodeTableWord 32 w = some i ↔ w % 2 ^ 32 = (encode i).toNat

/-- R93: a word other than the nine is illegal, that is: any bit of 31:8 set, or OPCODE 0x01 to 0x0F, 0x14
to 0x1F, 0x24 to 0xFF; written to CMD while BUSY = 0 it raises ERR_ILL and has no other effect. -/
def Obligations.IllegalWordsRaiseErrIllOnly : Prop :=
  ∀ w : Word,
    ((∃ e, decode w = .error e) ↔ ∀ i, w ≠ encode i) ∧
    ((∃ e, decode w = .error e) ↔
      w.extractLsb' 8 24 ≠ 0 ∨
      (0x01 ≤ (w.extractLsb' 0 8).toNat ∧ (w.extractLsb' 0 8).toNat ≤ 0x0F) ∨
      (0x14 ≤ (w.extractLsb' 0 8).toNat ∧ (w.extractLsb' 0 8).toNat ≤ 0x1F) ∨
      0x24 ≤ (w.extractLsb' 0 8).toNat) ∧
    ∀ s : State, s.busy = false → (∃ e, decode w = .error e) →
      step (s.before (.portWrite .word 0x00 w)) = .next { s with errIll := true }

/-- R94, R34: a CMD write whose word decodes to a well-formed command steps as that command at the state
left by taking the write off the actions; so does the table word that `withFetchWord` places. MODEL'S
CHOICE (logs 1, 2): the waiting CMD write stands where another machine fetches. -/
def Obligations.StepRunsTheDecodedCommand : Prop :=
  (∀ (s : State) (w : Word) (i : Instr), decode w = .ok i → i.wf = true →
    step (s.before (.portWrite .word 0x00 w)) = exec i s) ∧
  ∀ (s : State) (nbits w : Nat) (i : Instr), decodeTableWord nbits w = some i → i.wf = true →
    step (s.withFetchWord nbits w) = exec i s

/-- R94: the order of the checks of a CMD write. Busy: ERR_BUSY, the word not decoded. Else a word outside
R91: ERR_ILL. Else the command, of which NOP and the converter commands are complete with the write, and a
scan command is accepted with it: BUSY = 1, latches loaded. -/
def Obligations.CmdWriteChecksBusyThenLegality : Prop :=
  ∀ (s : State) (w : Word),
    (s.busy = true → step (s.before (.portWrite .word 0x00 w)) = .next { s with errBusy := true }) ∧
    (s.busy = false → (∀ i, w ≠ encode i) →
      step (s.before (.portWrite .word 0x00 w)) = .next { s with errIll := true }) ∧
    ∀ i, s.busy = false → w = encode i →
      ∃ t, step (s.before (.portWrite .word 0x00 w)) = .next t ∧ exec i s = .next t ∧
        (if i = .crop ∨ i = .scale ∨ i = .decim2 ∨ i = .run then
          t.busy = true ∧ t.lBase = s.srcBase ∧ t.lStride = s.srcStride
        else t.busy = false ∧ t.inputs = s.inputs)

/-! ## System and converter commands -/

/-- R170: NOP changes nothing; while BUSY = 1 it raises ERR_BUSY. -/
def Obligations.NopChangesNothing : Prop :=
  encode .nop = 0x00000000 ∧
  ∀ s : State, exec .nop s = .next (if s.busy then { s with errBusy := true } else s)

/-- R110: the formula, and the three bit fields it gives. -/
def Obligations.ConvertPacksTheThreeFields : Prop :=
  ∀ p : Word,
    convert p =
      ((((p >>> 19) &&& 0x1F) <<< 11) ||| (((p >>> 10) &&& 0x3F) <<< 5) ||| ((p >>> 3) &&& 0x1F)).setWidth 16 ∧
    (convert p).extractLsb' 11 5 = p.extractLsb' 19 5 ∧
    (convert p).extractLsb' 5 6 = p.extractLsb' 10 6 ∧
    (convert p).extractLsb' 0 5 = p.extractLsb' 3 5

/-- R111: `swap16` exchanges the two bytes, and the swapped converter variant is `swap16(convert(p))`. -/
def Obligations.Swap16ExchangesTheBytes : Prop :=
  (∀ v : Half, swap16 v = ((v >>> 8) ||| (v <<< 8)) &&& 0xFFFF ∧
    (swap16 v).extractLsb' 8 8 = v.extractLsb' 0 8 ∧ (swap16 v).extractLsb' 0 8 = v.extractLsb' 8 8) ∧
  ∀ p : Word, convertSwapped p = swap16 (convert p) ∧
    convertSwapped p = ((convert p >>> 8) ||| (convert p <<< 8))

/-- R117: only the bits of 0x00F8FCF8 matter, the three fields do not overlap and fit 16 bits, and
`swap16` is its own inverse. -/
def Obligations.ConverterLaws : Prop :=
  (∀ p : Word,
    convert p = convert (p &&& 0x00F8FCF8) ∧
    (red p <<< 11) &&& (green p <<< 5) = 0 ∧ (red p <<< 11) &&& blue p = 0 ∧
    (green p <<< 5) &&& blue p = 0 ∧
    ((red p <<< 11) ||| (green p <<< 5) ||| blue p).toNat < 2 ^ 16) ∧
  convert 0xFFFFFFFF = 0xFFFF ∧
  ∀ v : Half, swap16 (swap16 v) = v

/-- R112: lane i of CONV4 (CONV4S) depends on lane i's input only, and is what CONV (CONVS) gives for the
same input in lane 0. -/
def Obligations.LanesAgreeWithTheScalarPath : Prop :=
  ∀ (s u : State) (i : Fin 4), s.busy = false → u.busy = false → u.pixIn.get 0 = s.pixIn.get i →
    (∃ t r, exec .conv4 s = .next t ∧ exec .conv u = .next r ∧ t.pixOut.get i = r.pixOut.get 0) ∧
    ∃ t r, exec .conv4s s = .next t ∧ exec .convs u = .next r ∧ t.pixOut.get i = r.pixOut.get 0

/-- R113: CONV writes convert(PIX_IN[0]) to PIX_OUT[0] and changes nothing else; while BUSY = 1 it raises
ERR_BUSY and writes nothing. With the rule's encoding, corner cases and example. -/
def Obligations.ConvWritesLaneZero : Prop :=
  encode .conv = 0x00000010 ∧
  (∀ s : State, exec .conv s = .next
    (if s.busy then { s with errBusy := true }
     else { s with pixOut := { s.pixOut with lane0 := convert s.pixIn.lane0 } })) ∧
  convert 0x00000000 = 0x0000 ∧ convert 0xFFFFFFFF = 0xFFFF ∧ convert 0xFF070307 = 0x0000 ∧
  convert 0x00F80000 = 0xF800

/-- R114: CONVS writes swap16(convert(PIX_IN[0])) to PIX_OUT[0] and changes nothing else. -/
def Obligations.ConvsWritesLaneZeroSwapped : Prop :=
  encode .convs = 0x00000011 ∧
  (∀ s : State, exec .convs s = .next
    (if s.busy then { s with errBusy := true }
     else { s with pixOut := { s.pixOut with lane0 := swap16 (convert s.pixIn.lane0) } })) ∧
  swap16 (convert 0x00000000) = 0x0000 ∧ swap16 (convert 0xFFFFFFFF) = 0xFFFF ∧
  swap16 (convert 0xFF070307) = 0x0000 ∧
  (∀ v : Half, v.extractLsb' 8 8 = v.extractLsb' 0 8 → swap16 v = v) ∧
  swap16 (convert 0x00F80000) = 0x00F8

/-- R115: CONV4 writes convert(PIX_IN[i]) to PIX_OUT[i] for the four lanes together and changes nothing
else. With the rule's example. -/
def Obligations.Conv4WritesFourLanes : Prop :=
  encode .conv4 = 0x00000012 ∧
  (∀ s : State, exec .conv4 s = .next
    (if s.busy then { s with errBusy := true }
     else { s with pixOut :=
      ⟨convert s.pixIn.lane0, convert s.pixIn.lane1, convert s.pixIn.lane2, convert s.pixIn.lane3⟩ })) ∧
  convert 0x00F80000 = 0xF800 ∧ convert 0x0000FC00 = 0x07E0 ∧ convert 0x000000F8 = 0x001F ∧
  convert 0x12345678 = 0x32AF

/-- R116: CONV4S writes swap16(convert(PIX_IN[i])) to PIX_OUT[i] for the four lanes together and changes
nothing else. With the rule's example. -/
def Obligations.Conv4sWritesFourLanesSwapped : Prop :=
  encode .conv4s = 0x00000013 ∧
  (∀ s : State, exec .conv4s s = .next
    (if s.busy then { s with errBusy := true }
     else { s with pixOut :=
      ⟨swap16 (convert s.pixIn.lane0), swap16 (convert s.pixIn.lane1),
       swap16 (convert s.pixIn.lane2), swap16 (convert s.pixIn.lane3)⟩ })) ∧
  swap16 (convert 0x00F80000) = 0x00F8 ∧ swap16 (convert 0x0000FC00) = 0xE007 ∧
  swap16 (convert 0x000000F8) = 0x1F00 ∧ swap16 (convert 0x12345678) = 0xAF32

/-! ## Scan commands: acceptance, selection, index arithmetic -/

/-- R135: what the acceptance of each scan command writes; every other piece of state is unchanged, no
source pixel is read and no DisplayBuffer entry is written. -/
def Obligations.ScanCommandsAreAccepted : Prop :=
  ∀ s : State, s.busy = false →
    (∀ i m, (i = .crop ∧ m = .crop ∨ i = .scale ∧ m = .scaledNearest ∨
        i = .decim2 ∧ m = .integerDecimate2x ∨ i = .run ∧ m = select s.variant s.scaled) →
      exec i s = .next { s with
        lMode := m, lBase := s.srcBase, lStride := s.srcStride, cx := 0, cy := 0,
        busy := true, locked := true })

/-- R130, R27: the selection rule and its codes, which RMODE reads; RUN is the explicit command of the
strategy selected. -/
def Obligations.SelectionRuleIsReadAndRun : Prop :=
  (∀ b, select .variantB b = .integerDecimate2x) ∧ select .variantA true = .scaledNearest ∧
  select .variantA false = .crop ∧
  ∀ s : State,
    s.ReadsAs 0x0C
      (match s.variant, s.scaled with
        | .variantB, _ => 2
        | .variantA, true => 1
        | .variantA, false => 0) ∧
    exec .run s =
      (match s.variant, s.scaled with
        | .variantB, _ => exec .decim2 s
        | .variantA, true => exec .scale s
        | .variantA, false => exec .crop s)

/-- R132: Crop's region, source pixel, entry and converter, with the offsets of both variants (whose
truncation discards nothing) and the columns and rows read. -/
def Obligations.CropIndexArithmetic : Prop :=
  ∀ (v : PanelVariant) (x y : Nat),
    regionWidth .crop v = panelWidth v ∧ regionHeight .crop v = panelHeight v ∧
    sourceX .crop v x = x + (240 - panelWidth v) / 2 ∧ sourceY .crop v y = y + (160 - panelHeight v) / 2 ∧
    dbIndex .crop v x y = y * panelWidth v + x ∧ converterOf .crop = convert ∧
    (240 - panelWidth v) % 2 = 0 ∧ (160 - panelHeight v) % 2 = 0 ∧
    (match v with
      | .variantA => sourceX .crop v x = x + 28 ∧ sourceY .crop v y = y + 32 ∧
          (x < 184 → 28 ≤ sourceX .crop v x ∧ sourceX .crop v x ≤ 211) ∧
          (y < 96 → 32 ≤ sourceY .crop v y ∧ sourceY .crop v y ≤ 127)
      | .variantB => sourceX .crop v x = x + 40 ∧ sourceY .crop v y = y + 40 ∧
          (x < 160 → 40 ≤ sourceX .crop v x ∧ sourceX .crop v x ≤ 199) ∧
          (y < 80 → 40 ≤ sourceY .crop v y ∧ sourceY .crop v y ≤ 119))

/-- R133: ScaledNearest's exact floor on both axes, its closed forms, that no source column or row is
sampled twice, and the largest indexes. -/
def Obligations.ScaledNearestIndexArithmetic : Prop :=
  ∀ v : PanelVariant,
    regionWidth .scaledNearest v = panelWidth v ∧ regionHeight .scaledNearest v = panelHeight v ∧
    converterOf .scaledNearest = convert ∧
    (∀ x y, sourceX .scaledNearest v x = x * 240 / panelWidth v ∧
      sourceY .scaledNearest v y = y * 160 / panelHeight v ∧
      dbIndex .scaledNearest v x y = y * panelWidth v + x ∧
      (match v with
        | .variantA => sourceX .scaledNearest v x = 30 * x / 23 ∧ sourceY .scaledNearest v y = 5 * y / 3
        | .variantB => sourceX .scaledNearest v x = 3 * x / 2 ∧ sourceY .scaledNearest v y = 2 * y)) ∧
    (∀ x x', x < x' → sourceX .scaledNearest v x < sourceX .scaledNearest v x') ∧
    (∀ y y', y < y' → sourceY .scaledNearest v y < sourceY .scaledNearest v y') ∧
    sourceX .scaledNearest v (panelWidth v - 1) = 238 ∧ sourceY .scaledNearest v (panelHeight v - 1) = 158

/-- R134: IntegerDecimate2x's window, source pixel, entry and converter, and which panel positions it
writes on each variant. -/
def Obligations.DecimateIndexArithmetic : Prop :=
  ∀ v : PanelVariant,
    regionWidth .integerDecimate2x v = 120 ∧ regionHeight .integerDecimate2x v = 80 ∧
    (∀ p, converterOf .integerDecimate2x p = swap16 (convert p)) ∧
    (∀ x y, sourceX .integerDecimate2x v x = 2 * x ∧ sourceY .integerDecimate2x v y = 2 * y ∧
      dbIndex .integerDecimate2x v x y = y * panelWidth v + (panelWidth v - 120) / 2 + x) ∧
    ∀ column row, column < panelWidth v → row < panelHeight v →
      ((∃ x y, x < 120 ∧ y < 80 ∧ dbIndex .integerDecimate2x v x y = row * panelWidth v + column) ↔
        row < 80 ∧
          (match v with
            | .variantA => 32 ≤ column ∧ column ≤ 151
            | .variantB => 20 ≤ column ∧ column ≤ 139))

/-- R144: the ranges of every quantity of the index arithmetic, over all strategies and both variants. -/
def Obligations.ScanRanges : Prop :=
  ∀ (m : RenderMode) (v : PanelVariant) (x y : Nat), x < regionWidth m v → y < regionHeight m v →
    x ≤ 183 ∧ y ≤ 95 ∧ x * 240 ≤ 43920 ∧ y * 160 ≤ 15200 ∧
    sourceX m v x ≤ 238 ∧ sourceY m v y ≤ 158 ∧
    dbIndex m v x y ≤ bufSize v - 1 ∧ dbIndex m v x y ≤ 17663

/-- R145: no entry is written twice in one scan. -/
def Obligations.NoEntryIsWrittenTwice : Prop :=
  ∀ (m : RenderMode) (v : PanelVariant) (x y x' y' : Nat),
    x < regionWidth m v → y < regionHeight m v → x' < regionWidth m v → y' < regionHeight m v →
    dbIndex m v x y = dbIndex m v x' y' → x = x' ∧ y = y'

/-- R65: the source address, modulo 2^32; a stride of 2^32 - k acts as the negative stride -k. -/
def Obligations.SourceAddressWraps : Prop :=
  (∀ (s : State) (x y : Nat),
    (scanAddress s x y).toNat =
      (s.lBase.toNat + (sourceY s.lMode s.variant y * s.lStride.toNat) % 2 ^ 32 +
        sourceX s.lMode s.variant x) % 2 ^ 32) ∧
  (∀ (s : State) (x y : Nat), x < regionWidth s.lMode s.variant → y < regionHeight s.lMode s.variant →
    sourceX s.lMode s.variant x ≤ 238 ∧ sourceY s.lMode s.variant y ≤ 158) ∧
  ∀ (base k : Word) (sx sy : Nat),
    sourceAddress base (-k) sx sy = base - BitVec.ofNat 32 sy * k + BitVec.ofNat 32 sx

/-! ## The scan engine -/

/-- R136: one pixel step, at a cursor inside the region: one source pixel read, its conversion written to
one entry, every other entry as before, the cursor advanced in row-major order, BUSY cleared by the last
step; nothing else changes. Where the address is not admitted the step has no successor. -/
def Obligations.PixelStepWritesOneEntry : Prop :=
  ∀ s : State, s.busy = true → s.cx.toNat < regionWidth s.lMode s.variant →
    s.cy.toNat < regionHeight s.lMode s.variant →
    (srcAdmit (scanAddress s s.cx.toNat s.cy.toNat) s = true →
      ∃ t, step (s.before .engine) = .next t ∧
        dbRead (dbIndex s.lMode s.variant s.cx.toNat s.cy.toNat) t =
          converterOf s.lMode (srcMem (scanAddress s s.cx.toNat s.cy.toNat) s) ∧
        (∀ j, j ≠ dbIndex s.lMode s.variant s.cx.toNat s.cy.toNat → dbRead j t = dbRead j s) ∧
        t.cx.toNat =
          (if s.cx.toNat + 1 = regionWidth s.lMode s.variant then 0 else s.cx.toNat + 1) ∧
        t.cy.toNat =
          (if s.cx.toNat + 1 = regionWidth s.lMode s.variant then s.cy.toNat + 1 else s.cy.toNat) ∧
        (t.busy = false ↔ s.cx.toNat + 1 = regionWidth s.lMode s.variant ∧
          s.cy.toNat + 1 = regionHeight s.lMode s.variant) ∧
        t = { s with db := t.db, cx := t.cx, cy := t.cy, busy := t.busy }) ∧
    (srcAdmit (scanAddress s s.cx.toNat s.cy.toNat) s = false →
      ∀ t, step (s.before .engine) ≠ .next t)

/-- R63: a pixel step whose source address is not admitted is stuck; an admitted read returns SrcMem(a).
MODEL'S CHOICE (log 6): the missing successor is the fault `sourceNotAdmitted`. -/
def Obligations.UnbackedPixelStepIsStuck : Prop :=
  (∀ (s : State) (a : Word), srcRead a s = if srcAdmit a s then some (srcMem a s) else none) ∧
  ∀ s : State, s.busy = true → srcAdmit (scanAddress s s.cx.toNat s.cy.toNat) s = false →
    step (s.before .engine) = .fault .sourceNotAdmitted

/-- R191, R229: the engine takes no step while BUSY = 0. MODEL'S CHOICE (logs 1, 11): an idle turn leaves
the state as it is, and with no action left the engine has the turn. -/
def Obligations.IdleEngineTakesNoStep : Prop :=
  (∀ s : State, s.busy = false → step (s.before .engine) = .next s) ∧
  ∀ s : State, s.inputs = [] → step s = step (s.before .engine)

/-- R137: an accepted scan left alone, every address it reads being admitted, takes exactly RW * RH pixel
steps, in row-major order, and the last one, no earlier one, clears BUSY; LOCKED, the latches and all else
but the DisplayBuffer and the cursor stay. MODEL'S CHOICE (log 1): with no action left the engine moves. -/
def Obligations.ScanRunsToCompletion : Prop :=
  (∀ m v, regionWidth m v * regionHeight m v =
    match m, v with
    | .integerDecimate2x, _ => 9600
    | _, .variantA => 17664
    | _, .variantB => 12800) ∧
  ∀ s : State, s.busy = true → s.cx = 0 → s.cy = 0 → s.inputs = [] → s.AdmitsScan →
    (∀ k, k < regionWidth s.lMode s.variant * regionHeight s.lMode s.variant →
      ∃ t : State, Host.Core.run core k s = .next t ∧ t.busy = true ∧
        t.cx.toNat = k % regionWidth s.lMode s.variant ∧ t.cy.toNat = k / regionWidth s.lMode s.variant) ∧
    ∃ t : State, Host.Core.run core (regionWidth s.lMode s.variant * regionHeight s.lMode s.variant) s = .next t ∧
      t = { s with db := t.db, busy := false, cx := 0,
                   cy := BitVec.ofNat 8 (regionHeight s.lMode s.variant) }

/-- R138 to R141, R145: a scan command written to CMD of an idle block, all addresses being admitted and no
other agent acting, ends after one CMD write and RW * RH pixel steps with the DisplayBuffer of R145; all
else is as the acceptance and the last step leave it. MODEL'S CHOICE (log 1): with no action left the
engine moves. -/
def Obligations.ScanCommandFillsTheDisplayBuffer : Prop :=
  ∀ (s : State) (i : Instr) (m : RenderMode), s.busy = false → s.inputs = [] →
    (i = .crop ∧ m = .crop ∨ i = .scale ∧ m = .scaledNearest ∨
      i = .decim2 ∧ m = .integerDecimate2x ∨ i = .run ∧ m = select s.variant s.scaled) →
    (acceptScan m s).AdmitsScan →
    ∃ t : State, Host.Core.run core (1 + regionWidth m s.variant * regionHeight m s.variant)
        (s.before (.portWrite .word 0x00 (encode i))) = .next t ∧
      ScanResult m s.variant (sourceImage s.srcBase s.srcStride s) s t ∧
      t = { s with db := t.db, busy := false, locked := true, lMode := m, lBase := s.srcBase,
                   lStride := s.srcStride, cx := 0, cy := BitVec.ofNat 8 (regionHeight m s.variant) }

/-- R145 with R75: whatever the other agents do meanwhile, if no reset comes and the source pixels the scan
reads stay as they are until BUSY = 0, the DisplayBuffer is then that of R145. The scan may be at any
cursor, the positions before it being written. -/
def Obligations.ScanResultUnderAnyInterleaving : Prop :=
  ∀ (n : Nat) (s t : State), s.Inv → s.busy = true → s.WrittenSoFar →
    (∀ k, k < n → ∃ u : State, Host.Core.run core k s = .next u ∧ u.busy = true ∧
      u.inputs.head? ≠ some .reset ∧
      ∀ x y, x < regionWidth s.lMode s.variant → y < regionHeight s.lMode s.variant →
        srcMem (scanAddress s x y) u = srcMem (scanAddress s x y) s) →
    Host.Core.run core n s = .next t → t.busy = false →
    ScanResult s.lMode s.variant (sourceImage s.lBase s.lStride s) s t

/-- R136, R75: whatever the next action, but for the producer's store, a change of the backing and reset,
the entries written so far stay the conversions of their pixels; when the step ends the scan, the whole
region is written. -/
def Obligations.WrittenEntriesStayWritten : Prop :=
  ∀ s t : State, s.Inv → s.busy = true → s.WrittenSoFar →
    (∀ a p, s.inputs.head? ≠ some (.produce a p)) → s.inputs.head? ≠ some .reset →
    step s = .next t →
    t.Inv ∧ (t.busy = true → t.WrittenSoFar) ∧ (t.busy = false → t.FrameWritten)

/-- R33, R73, R29, R30, R31: the base, stride and lanes the host writes meanwhile do not reach a running
scan: the engine's turn does the same with any other values in those registers. -/
def Obligations.EngineReadsTheLatchesOnly : Prop :=
  ∀ (s : State) (base stride : Word) (lanes : Lanes 32) (outs : Lanes 16),
    step (State.before { s with srcBase := base, srcStride := stride, pixIn := lanes, pixOut := outs } .engine) =
      match step (s.before .engine) with
      | .next t => .next { t with srcBase := base, srcStride := stride, pixIn := lanes, pixOut := outs }
      | .fault f => .fault f
      | .refused r => .refused r

/-! ## Ports -/

/-- R171: the effect of a host write, target by target. -/
def Obligations.HostWriteEffects : Prop :=
  ∀ (s : State) (w : Word),
    step (s.before (.portWrite .word 0x00 w)) =
      (if s.busy then .next { s with errBusy := true }
       else match decode w with
        | .ok i => exec i s
        | .error _ => .next { s with errIll := true }) ∧
    step (s.before (.portWrite .word 0x04 w)) =
      .next { s with errIll := s.errIll && !w.getLsbD 8, errBusy := s.errBusy && !w.getLsbD 9,
                     errLock := s.errLock && !w.getLsbD 10 } ∧
    step (s.before (.portWrite .word 0x08 w)) =
      .next (if s.locked then { s with errLock := true }
             else { s with variant := if w.getLsbD 0 then .variantB else .variantA, scaled := w.getLsbD 1 }) ∧
    (∀ offset, offset = 0x0C ∨ offset = 0x10 ∨ offset = 0x14 ∨ offset = 0x18 →
      step (s.before (.portWrite .word offset w)) = .next s) ∧
    step (s.before (.portWrite .word 0x20 w)) = .next { s with srcBase := w } ∧
    step (s.before (.portWrite .word 0x24 w)) = .next { s with srcStride := w } ∧
    step (s.before (.portWrite .word 0x30 w)) = .next { s with pixIn := { s.pixIn with lane0 := w } } ∧
    step (s.before (.portWrite .word 0x34 w)) = .next { s with pixIn := { s.pixIn with lane1 := w } } ∧
    step (s.before (.portWrite .word 0x38 w)) = .next { s with pixIn := { s.pixIn with lane2 := w } } ∧
    step (s.before (.portWrite .word 0x3C w)) = .next { s with pixIn := { s.pixIn with lane3 := w } } ∧
    (∀ offset, offset = 0x40 ∨ offset = 0x44 ∨ offset = 0x48 ∨ offset = 0x4C →
      step (s.before (.portWrite .word offset w)) = .next s) ∧
    ∀ offset, offset % 4 = 0 → (offset = 0x1C ∨ offset = 0x28 ∨ offset = 0x2C ∨ 0x50 ≤ offset ∧ offset ≤ 0xFC) →
      step (s.before (.portWrite .word offset w)) = .next s

/-- R172: the value of a host read, target by target; no read changes the block's state. -/
def Obligations.HostReadValues : Prop :=
  ∀ s : State,
    s.ReadsAs 0x00 0x00000000 ∧
    s.ReadsAs 0x04
      ((BitVec.ofBool s.busy).setWidth 32 ||| (BitVec.ofBool s.locked).setWidth 32 <<< 1 |||
        (BitVec.ofBool s.errIll).setWidth 32 <<< 8 ||| (BitVec.ofBool s.errBusy).setWidth 32 <<< 9 |||
        (BitVec.ofBool s.errLock).setWidth 32 <<< 10) ∧
    s.ReadsAs 0x08 ((if s.variant = .variantB then 1 else 0) ||| (if s.scaled then 1 else 0) <<< 1) ∧
    s.ReadsAs 0x0C (if s.variant = .variantB then 2 else if s.scaled then 1 else 0) ∧
    s.ReadsAs 0x10 (if s.variant = .variantA then 184 else 160) ∧
    s.ReadsAs 0x14 (if s.variant = .variantA then 96 else 80) ∧
    s.ReadsAs 0x18 (if s.variant = .variantA then 17664 else 12800) ∧
    s.ReadsAs 0x20 s.srcBase ∧ s.ReadsAs 0x24 s.srcStride ∧
    s.ReadsAs 0x30 s.pixIn.lane0 ∧ s.ReadsAs 0x34 s.pixIn.lane1 ∧
    s.ReadsAs 0x38 s.pixIn.lane2 ∧ s.ReadsAs 0x3C s.pixIn.lane3 ∧
    s.ReadsAs 0x40 (s.pixOut.lane0.setWidth 32) ∧ s.ReadsAs 0x44 (s.pixOut.lane1.setWidth 32) ∧
    s.ReadsAs 0x48 (s.pixOut.lane2.setWidth 32) ∧ s.ReadsAs 0x4C (s.pixOut.lane3.setWidth 32) ∧
    ∀ offset, offset % 4 = 0 → (offset = 0x1C ∨ offset = 0x28 ∨ offset = 0x2C ∨ 0x50 ≤ offset ∧ offset ≤ 0xFC) →
      s.ReadsAs offset 0x00000000

/-- R28: PANEL_W, PANEL_H and BUF_SIZE read the geometry of the variant in CFG, and ignore writes. -/
def Obligations.GeometryRegistersRead : Prop :=
  ∀ s : State,
    s.ReadsAs 0x10 (match s.variant with | .variantA => 0x000000B8 | .variantB => 0x000000A0) ∧
    s.ReadsAs 0x14 (match s.variant with | .variantA => 0x00000060 | .variantB => 0x00000050) ∧
    s.ReadsAs 0x18 (match s.variant with | .variantA => 0x00004500 | .variantB => 0x00003200) ∧
    bufSize s.variant = panelWidth s.variant * panelHeight s.variant ∧
    (∀ w offset, offset = 0x10 ∨ offset = 0x14 ∨ offset = 0x18 →
      step (s.before (.portWrite .word offset w)) = .next s) ∧
    State.reset.variant = .variantA

/-- R67: `DBRead` and `DBByte` are two views of one storage, the byte view little-endian; indexes outside
the ranges are refused; no read changes the block. -/
def Obligations.DbPortIsLittleEndian : Prop :=
  ∀ (s : State) (k : Nat),
    (k < 17664 → step (s.before (.dbRead k)) =
      .next { s with replies := .entry (dbRead k s) :: s.replies }) ∧
    (k < 35328 → step (s.before (.dbByte k)) =
      .next (answer (.byte
        (if k % 2 = 0 then (dbRead (k / 2) s).extractLsb' 0 8
         else (dbRead (k / 2) s).extractLsb' 8 8)) s)) ∧
    (17664 ≤ k → step (s.before (.dbRead k)) = .refused .indexNotOnDbPort) ∧
    (35328 ≤ k → step (s.before (.dbByte k)) = .refused .indexNotOnDbPort)

/-- R79: the frame payload is `DBByte(0)` to `DBByte(2 * BUF - 1)`. -/
def Obligations.FramePayloadIsTheByteView : Prop :=
  ∀ s : State,
    (framePayload s).length = (match s.variant with | .variantA => 35328 | .variantB => 25600) ∧
    ∀ k (h : k < (framePayload s).length), (framePayload s)[k] = dbByte k s

/-- R61, R67 (93_implementation_defined.md U6, U7): a step is refused exactly when the next action is an
access its port does not carry. -/
def Obligations.RefusedExactlyWhenIllFormed : Prop :=
  ∀ s : State, (∃ r, step s = .refused r) ↔ ∃ e, s.inputs.head? = some e ∧ e.wf = false

/-- R63, R66, R144: from a state that meets the invariant, a step faults exactly when the engine has the
turn, a scan is running and its next source address is not admitted; in particular no DisplayBuffer write
is out of range. MODEL'S CHOICES: the stuck pixel step of U1 and an index out of range appear as faults
(logs 6, 8), and with no action left the engine has the turn (log 1). -/
def Obligations.FaultsOnlyOnUnbackedSource : Prop :=
  ∀ (s : State) (f : Fault), s.Inv →
    (step s = .fault f ↔
      f = .sourceNotAdmitted ∧ s.busy = true ∧ (s.inputs = [] ∨ s.inputs.head? = some .engine) ∧
        srcAdmit (scanAddress s s.cx.toNat s.cy.toNat) s = false)

/-- R95, R96: the bus transactions of the script lines; `wait` is one action, polled round after round by
`WaitPollsStatus`. -/
def Obligations.ScriptLinesExpand : Prop :=
  (∀ w, lineActions (.cmdw w) = [.portWrite .word 0x00 w]) ∧
  (∀ i, lineActions (.cmd i) = [.portWrite .word 0x00 (encode i)]) ∧
  (∀ b st, lineActions (.frame b st) = [.portWrite .word 0x20 b, .portWrite .word 0x24 st]) ∧
  lineActions .clrerr = [.portWrite .word 0x04 0x00000700] ∧
  (∀ i, lineActions (.db i) = [.dbRead i] ∧ lineActions (.dbb i) = [.dbByte i]) ∧
  lineActions .wait = [.waitIdle] ∧
  (∀ p, lineActions (.conv1 p) =
    [.portWrite .word 0x30 p, .portWrite .word 0x00 0x00000010, .portRead .word 0x40]) ∧
  (∀ r v, ∃ offset, lineActions (.wr r v) = [.portWrite .word offset v] ∧
    lineActions (.rd r) = [.portRead .word offset] ∧ portTarget .word offset = some (.reg r)) ∧
  ∀ l : Line, l.wf = true → ∀ e ∈ lineActions l, e.wf = true

/-- R96: `wait` reads STATUS, ends with the read that shows BUSY = 0, and after a read that shows BUSY = 1
reads again. MODEL'S CHOICE (log 12): between two reads one other agent acts, that is, the agent of the action
waiting if it is the engine, the producer or the platform, else the engine where its pixel step has a
successor; where it has none nothing comes between. -/
def Obligations.WaitPollsStatus : Prop :=
  ∀ s : State,
    (s.busy = false → step (s.before .waitIdle) =
      .next { s with replies := .register (statusWord s) :: s.replies }) ∧
    (s.busy = true → ∃ later : List Input,
      step (s.before .waitIdle) =
        .next { s with replies := .register (statusWord s) :: s.replies, inputs := later } ∧
      (∀ e rest, s.inputs = e :: rest →
        (e = .engine ∨ e = .reset ∨ (∃ a p, e = .produce a p) ∨ ∃ u, e = .setBacking u) →
        later = e :: .waitIdle :: rest) ∧
      ((∀ e, s.inputs.head? = some e →
          e ≠ .engine ∧ e ≠ .reset ∧ (∀ a p, e ≠ .produce a p) ∧ ∀ u, e ≠ .setBacking u) →
        later =
          if srcAdmit (scanAddress s s.cx.toNat s.cy.toNat) s then .engine :: .waitIdle :: s.inputs
          else .waitIdle :: s.inputs))

/-! ## Errors -/

/-- R182: raising an error sets the named flag (it stays 1 if already 1) and changes nothing else. -/
def Obligations.RaisingSetsOneFlagOnly : Prop :=
  ∀ (e f : ErrorFlag) (s : State),
    errorFlag f (raiseError e s) = (errorFlag f s || decide (f = e)) ∧
    raiseError e s = { s with errIll := (raiseError e s).errIll, errBusy := (raiseError e s).errBusy,
                              errLock := (raiseError e s).errLock }

/-- R183: any CMD write while BUSY = 1 raises ERR_BUSY, whatever the word; the command is not queued, and
the running scan, PIX_OUT and the DisplayBuffer are as before. -/
def Obligations.AnyCommandWhileBusyIsRejected : Prop :=
  ∀ s : State, s.busy = true →
    (∀ w, step (s.before (.portWrite .word 0x00 w)) = .next { s with errBusy := true }) ∧
    ∀ i, exec i s = .next { s with errBusy := true }

/-- R185: a CFG write while LOCKED = 1 raises ERR_LOCK and leaves CFG as it is, also when the value equals
the current one. -/
def Obligations.CfgWriteWhileLockedIsRejected : Prop :=
  ∀ (s : State) (w : Word), s.locked = true →
    step (s.before (.portWrite .word 0x08 w)) = .next { s with errLock := true }

/-- R186: one step raises at most one error. -/
def Obligations.OneStepRaisesAtMostOneError : Prop :=
  ∀ (s t : State) (e f : ErrorFlag), step s = .next t →
    errorFlag e s = false → errorFlag e t = true → errorFlag f s = false → errorFlag f t = true → e = f

/-! ## The whole machine -/

/-- R39: the reset value of every piece of state, and what the registers without storage then read. -/
def Obligations.ResetValues : Prop :=
  let s := State.reset
  s.busy = false ∧ s.locked = false ∧ s.errIll = false ∧ s.errBusy = false ∧ s.errLock = false ∧
  s.variant = .variantA ∧ s.scaled = false ∧
  readRegister .rmode s = 0 ∧ readRegister .panelW s = 184 ∧ readRegister .panelH s = 96 ∧
  readRegister .bufSize s = 17664 ∧
  s.srcBase = 0x00000000 ∧ s.srcStride = 0x00000000 ∧
  (∀ i, s.pixIn.get i = 0x00000000) ∧ (∀ i, s.pixOut.get i = 0x0000) ∧
  s.lBase = 0 ∧ s.lStride = 0 ∧ s.lMode.code = 0 ∧ s.cx = 0 ∧ s.cy = 0 ∧
  ∀ i, i < 17664 → dbRead i s = 0x0000

/-- R211, R212, R210: reset, at any time, also while BUSY = 1, puts every piece of the block's state into
its reset value, every DisplayBuffer entry zero, and does not touch source memory. MODEL'S CHOICE (log 14):
the model's own fields stay. -/
def Obligations.ResetRestoresEverything : Prop :=
  ∀ s : State, ∃ t, step (s.before .reset) = .next t ∧
    t = { State.reset with src := s.src, unbacked := s.unbacked, inputs := s.inputs, replies := s.replies } ∧
    (∀ i, i < 17664 → dbRead i t = 0x0000) ∧ ∀ a, srcMem a t = srcMem a s

/-- The state after reset meets the invariant, and its borders are zero. -/
def Obligations.ResetMeetsTheInvariant : Prop := State.reset.Inv ∧ State.reset.BordersZero

/-- Every step keeps the invariant: BUSY implies LOCKED, the cursor inside the region, the memories in
canonical form (the model's, logs 4 and 7), no DisplayBuffer byte beyond the frame, the DisplayBuffer as
reset left it until the first scan (R26, R34, R36, R212). -/
def Obligations.EveryStepKeepsTheInvariant : Prop :=
  ∀ s t : State, s.Inv → step s = .next t → t.Inv

/-- R223, R142: the borders of the IntegerDecimate2x window stay zero as long as no other scan is accepted:
every step keeps them zero, but for the CMD write of CROP, of SCALE, or of RUN where it selects another
strategy. -/
def Obligations.BordersStayZeroUnderDecimation : Prop :=
  ∀ s t : State, s.Inv → s.BordersZero →
    (∀ w, s.inputs.head? = some (.portWrite .word 0x00 w) →
      w ≠ 0x00000020 ∧ w ≠ 0x00000021 ∧
      (w = 0x00000023 → select s.variant s.scaled = .integerDecimate2x)) →
    step s = .next t → t.BordersZero

/-- R228: under VariantB the entries 12800 to 17663 read 0. -/
def Obligations.EntriesBeyondTheFrameAreZero : Prop :=
  ∀ (s : State) (i : Nat), s.Inv → s.variant = .variantB → 12800 ≤ i → i ≤ 17663 → dbRead i s = 0x0000

/-- R26, R225: once LOCKED, no step but reset changes CFG or LOCKED. -/
def Obligations.LockedCfgNeverChanges : Prop :=
  ∀ s t : State, s.locked = true → s.inputs.head? ≠ some .reset → step s = .next t →
    t.locked = true ∧ t.variant = s.variant ∧ t.scaled = s.scaled

/-- R36: the DisplayBuffer is changed by pixel steps and by reset only. -/
def Obligations.OnlyPixelStepsChangeTheDisplayBuffer : Prop :=
  ∀ s t : State, step s = .next t → t.db ≠ s.db →
    (s.busy = true ∧ (s.inputs = [] ∨ s.inputs.head? = some .engine)) ∨ s.inputs.head? = some .reset

/-- R32: PIX_OUT is changed by the four converter commands and by reset only. -/
def Obligations.OnlyConverterCommandsChangePixOut : Prop :=
  ∀ s t : State, step s = .next t → t.pixOut ≠ s.pixOut →
    (s.busy = false ∧ ∃ w i, s.inputs.head? = some (.portWrite .word 0x00 w) ∧ decode w = .ok i ∧
      (i = .conv ∨ i = .convs ∨ i = .conv4 ∨ i = .conv4s)) ∨ s.inputs.head? = some .reset

/-- R33: the latches are changed by the acceptance of a scan, together and from SRC_BASE and SRC_STRIDE,
and by reset only. -/
def Obligations.OnlyAcceptanceLoadsTheLatches : Prop :=
  ∀ s t : State, step s = .next t →
    (t.lBase ≠ s.lBase ∨ t.lStride ≠ s.lStride ∨ t.lMode ≠ s.lMode) →
    (s.busy = false ∧ t.busy = true ∧ t.lBase = s.srcBase ∧ t.lStride = s.srcStride ∧ t.cx = 0 ∧ t.cy = 0) ∨
      s.inputs.head? = some .reset

/-- R62, R64: source memory is changed by the producer's stores only, one whole pixel at a time: PXSC never
writes source space. -/
def Obligations.OnlyTheProducerChangesTheSource : Prop :=
  ∀ s t : State, step s = .next t → t.src ≠ s.src →
    ∃ a p, s.inputs.head? = some (.produce a p) ∧ ∀ b, srcMem b t = if b = a then p else srcMem b s

/-! ## The pseudo-instruction `wait`, round after round -/

/-- R96 with U1: on a scan whose next pixel step has no successor, `wait` reads STATUS, with BUSY = 1 in it,
as many times as one likes; the block does not change and what the host does next stays waiting. MODEL'S
CHOICE (log 12): no other agent's action is waiting to come between the reads. -/
def Obligations.WaitOnAStuckScanKeepsReading : Prop :=
  ∀ (s : State) (n : Nat), s.busy = true → srcAdmit (scanAddress s s.cx.toNat s.cy.toNat) s = false →
    (∀ e, s.inputs.head? = some e → actsDuringWait e = false) →
    (statusWord s).getLsbD 0 = true ∧
    Host.Core.run core n (s.before .waitIdle) =
      .next { s.before .waitIdle with
        replies := List.replicate n (.register (statusWord s)) ++ s.replies }

/-- R96 with R137, R145: `wait` issued on a scan just accepted, whose addresses are all admitted, terminates:
RW * RH reads show BUSY = 1, the next one shows BUSY = 0, and the DisplayBuffer is then that of R145; what
the host does next is waiting. MODEL'S CHOICE (log 12): one pixel step between two reads, and no other
agent's action is waiting to come between them. -/
def Obligations.WaitEndsWithTheScan : Prop :=
  ∀ s : State, s.busy = true → s.cx = 0 → s.cy = 0 → s.AdmitsScan →
    (∀ e, s.inputs.head? = some e → actsDuringWait e = false) →
    ∃ t : State,
      Host.Core.run core (2 * (regionWidth s.lMode s.variant * regionHeight s.lMode s.variant) + 1)
        (s.before .waitIdle) = .next t ∧
      ScanResult s.lMode s.variant (sourceImage s.lBase s.lStride s) s t ∧
      (statusWord s).getLsbD 0 = true ∧ (statusWord t).getLsbD 0 = false ∧
      t = { s with db := t.db, busy := false, cx := 0, cy := BitVec.ofNat 8 (regionHeight s.lMode s.variant),
                   replies := .register (statusWord t) ::
                     (List.replicate (regionWidth s.lMode s.variant * regionHeight s.lMode s.variant)
                       (.register (statusWord s)) ++ s.replies) }
end

