-- ==== Sys2Proof/Laws/State.lean ====
section
/-! SUPPORT. One lemma per field per named update of State: what the update leaves in the field. No later
proof unfolds a record update. -/

namespace Sys2Proof.Machine

section RaiseError
variable (e : ErrorFlag) (s : State)

@[simp] theorem raiseError_busy : (raiseError e s).busy = s.busy := rfl
@[simp] theorem raiseError_locked : (raiseError e s).locked = s.locked := rfl
@[simp] theorem raiseError_errIll : (raiseError e s).errIll = (s.errIll || e == .errIll) := rfl
@[simp] theorem raiseError_errBusy : (raiseError e s).errBusy = (s.errBusy || e == .errBusy) := rfl
@[simp] theorem raiseError_errLock : (raiseError e s).errLock = (s.errLock || e == .errLock) := rfl
@[simp] theorem raiseError_variant : (raiseError e s).variant = s.variant := rfl
@[simp] theorem raiseError_scaled : (raiseError e s).scaled = s.scaled := rfl
@[simp] theorem raiseError_srcBase : (raiseError e s).srcBase = s.srcBase := rfl
@[simp] theorem raiseError_srcStride : (raiseError e s).srcStride = s.srcStride := rfl
@[simp] theorem raiseError_pixIn : (raiseError e s).pixIn = s.pixIn := rfl
@[simp] theorem raiseError_pixOut : (raiseError e s).pixOut = s.pixOut := rfl
@[simp] theorem raiseError_lBase : (raiseError e s).lBase = s.lBase := rfl
@[simp] theorem raiseError_lStride : (raiseError e s).lStride = s.lStride := rfl
@[simp] theorem raiseError_lMode : (raiseError e s).lMode = s.lMode := rfl
@[simp] theorem raiseError_cx : (raiseError e s).cx = s.cx := rfl
@[simp] theorem raiseError_cy : (raiseError e s).cy = s.cy := rfl
@[simp] theorem raiseError_db : (raiseError e s).db = s.db := rfl
@[simp] theorem raiseError_src : (raiseError e s).src = s.src := rfl
@[simp] theorem raiseError_unbacked : (raiseError e s).unbacked = s.unbacked := rfl
@[simp] theorem raiseError_inputs : (raiseError e s).inputs = s.inputs := rfl
@[simp] theorem raiseError_replies : (raiseError e s).replies = s.replies := rfl

end RaiseError

section AckErrors
variable (w : Word) (s : State)

@[simp] theorem ackErrors_busy : (ackErrors w s).busy = s.busy := rfl
@[simp] theorem ackErrors_locked : (ackErrors w s).locked = s.locked := rfl
@[simp] theorem ackErrors_errIll : (ackErrors w s).errIll = (s.errIll && !w.getLsbD 8) := rfl
@[simp] theorem ackErrors_errBusy : (ackErrors w s).errBusy = (s.errBusy && !w.getLsbD 9) := rfl
@[simp] theorem ackErrors_errLock : (ackErrors w s).errLock = (s.errLock && !w.getLsbD 10) := rfl
@[simp] theorem ackErrors_variant : (ackErrors w s).variant = s.variant := rfl
@[simp] theorem ackErrors_scaled : (ackErrors w s).scaled = s.scaled := rfl
@[simp] theorem ackErrors_srcBase : (ackErrors w s).srcBase = s.srcBase := rfl
@[simp] theorem ackErrors_srcStride : (ackErrors w s).srcStride = s.srcStride := rfl
@[simp] theorem ackErrors_pixIn : (ackErrors w s).pixIn = s.pixIn := rfl
@[simp] theorem ackErrors_pixOut : (ackErrors w s).pixOut = s.pixOut := rfl
@[simp] theorem ackErrors_lBase : (ackErrors w s).lBase = s.lBase := rfl
@[simp] theorem ackErrors_lStride : (ackErrors w s).lStride = s.lStride := rfl
@[simp] theorem ackErrors_lMode : (ackErrors w s).lMode = s.lMode := rfl
@[simp] theorem ackErrors_cx : (ackErrors w s).cx = s.cx := rfl
@[simp] theorem ackErrors_cy : (ackErrors w s).cy = s.cy := rfl
@[simp] theorem ackErrors_db : (ackErrors w s).db = s.db := rfl
@[simp] theorem ackErrors_src : (ackErrors w s).src = s.src := rfl
@[simp] theorem ackErrors_unbacked : (ackErrors w s).unbacked = s.unbacked := rfl
@[simp] theorem ackErrors_inputs : (ackErrors w s).inputs = s.inputs := rfl
@[simp] theorem ackErrors_replies : (ackErrors w s).replies = s.replies := rfl

end AckErrors

section SetCfg
variable (w : Word) (s : State)

@[simp] theorem setCfg_busy : (setCfg w s).busy = s.busy := rfl
@[simp] theorem setCfg_locked : (setCfg w s).locked = s.locked := rfl
@[simp] theorem setCfg_errIll : (setCfg w s).errIll = s.errIll := rfl
@[simp] theorem setCfg_errBusy : (setCfg w s).errBusy = s.errBusy := rfl
@[simp] theorem setCfg_errLock : (setCfg w s).errLock = s.errLock := rfl
@[simp] theorem setCfg_variant : (setCfg w s).variant = PanelVariant.ofBit (w.getLsbD 0) := rfl
@[simp] theorem setCfg_scaled : (setCfg w s).scaled = w.getLsbD 1 := rfl
@[simp] theorem setCfg_srcBase : (setCfg w s).srcBase = s.srcBase := rfl
@[simp] theorem setCfg_srcStride : (setCfg w s).srcStride = s.srcStride := rfl
@[simp] theorem setCfg_pixIn : (setCfg w s).pixIn = s.pixIn := rfl
@[simp] theorem setCfg_pixOut : (setCfg w s).pixOut = s.pixOut := rfl
@[simp] theorem setCfg_lBase : (setCfg w s).lBase = s.lBase := rfl
@[simp] theorem setCfg_lStride : (setCfg w s).lStride = s.lStride := rfl
@[simp] theorem setCfg_lMode : (setCfg w s).lMode = s.lMode := rfl
@[simp] theorem setCfg_cx : (setCfg w s).cx = s.cx := rfl
@[simp] theorem setCfg_cy : (setCfg w s).cy = s.cy := rfl
@[simp] theorem setCfg_db : (setCfg w s).db = s.db := rfl
@[simp] theorem setCfg_src : (setCfg w s).src = s.src := rfl
@[simp] theorem setCfg_unbacked : (setCfg w s).unbacked = s.unbacked := rfl
@[simp] theorem setCfg_inputs : (setCfg w s).inputs = s.inputs := rfl
@[simp] theorem setCfg_replies : (setCfg w s).replies = s.replies := rfl

end SetCfg

section SetPixOut
variable (l : Lanes 16) (s : State)

@[simp] theorem setPixOut_busy : (setPixOut l s).busy = s.busy := rfl
@[simp] theorem setPixOut_locked : (setPixOut l s).locked = s.locked := rfl
@[simp] theorem setPixOut_errIll : (setPixOut l s).errIll = s.errIll := rfl
@[simp] theorem setPixOut_errBusy : (setPixOut l s).errBusy = s.errBusy := rfl
@[simp] theorem setPixOut_errLock : (setPixOut l s).errLock = s.errLock := rfl
@[simp] theorem setPixOut_variant : (setPixOut l s).variant = s.variant := rfl
@[simp] theorem setPixOut_scaled : (setPixOut l s).scaled = s.scaled := rfl
@[simp] theorem setPixOut_srcBase : (setPixOut l s).srcBase = s.srcBase := rfl
@[simp] theorem setPixOut_srcStride : (setPixOut l s).srcStride = s.srcStride := rfl
@[simp] theorem setPixOut_pixIn : (setPixOut l s).pixIn = s.pixIn := rfl
@[simp] theorem setPixOut_pixOut : (setPixOut l s).pixOut = l := rfl
@[simp] theorem setPixOut_lBase : (setPixOut l s).lBase = s.lBase := rfl
@[simp] theorem setPixOut_lStride : (setPixOut l s).lStride = s.lStride := rfl
@[simp] theorem setPixOut_lMode : (setPixOut l s).lMode = s.lMode := rfl
@[simp] theorem setPixOut_cx : (setPixOut l s).cx = s.cx := rfl
@[simp] theorem setPixOut_cy : (setPixOut l s).cy = s.cy := rfl
@[simp] theorem setPixOut_db : (setPixOut l s).db = s.db := rfl
@[simp] theorem setPixOut_src : (setPixOut l s).src = s.src := rfl
@[simp] theorem setPixOut_unbacked : (setPixOut l s).unbacked = s.unbacked := rfl
@[simp] theorem setPixOut_inputs : (setPixOut l s).inputs = s.inputs := rfl
@[simp] theorem setPixOut_replies : (setPixOut l s).replies = s.replies := rfl

end SetPixOut

section AcceptScan
variable (m : RenderMode) (s : State)

@[simp] theorem acceptScan_busy : (acceptScan m s).busy = true := rfl
@[simp] theorem acceptScan_locked : (acceptScan m s).locked = true := rfl
@[simp] theorem acceptScan_errIll : (acceptScan m s).errIll = s.errIll := rfl
@[simp] theorem acceptScan_errBusy : (acceptScan m s).errBusy = s.errBusy := rfl
@[simp] theorem acceptScan_errLock : (acceptScan m s).errLock = s.errLock := rfl
@[simp] theorem acceptScan_variant : (acceptScan m s).variant = s.variant := rfl
@[simp] theorem acceptScan_scaled : (acceptScan m s).scaled = s.scaled := rfl
@[simp] theorem acceptScan_srcBase : (acceptScan m s).srcBase = s.srcBase := rfl
@[simp] theorem acceptScan_srcStride : (acceptScan m s).srcStride = s.srcStride := rfl
@[simp] theorem acceptScan_pixIn : (acceptScan m s).pixIn = s.pixIn := rfl
@[simp] theorem acceptScan_pixOut : (acceptScan m s).pixOut = s.pixOut := rfl
@[simp] theorem acceptScan_lBase : (acceptScan m s).lBase = s.srcBase := rfl
@[simp] theorem acceptScan_lStride : (acceptScan m s).lStride = s.srcStride := rfl
@[simp] theorem acceptScan_lMode : (acceptScan m s).lMode = m := rfl
@[simp] theorem acceptScan_cx : (acceptScan m s).cx = 0 := rfl
@[simp] theorem acceptScan_cy : (acceptScan m s).cy = 0 := rfl
@[simp] theorem acceptScan_db : (acceptScan m s).db = s.db := rfl
@[simp] theorem acceptScan_src : (acceptScan m s).src = s.src := rfl
@[simp] theorem acceptScan_unbacked : (acceptScan m s).unbacked = s.unbacked := rfl
@[simp] theorem acceptScan_inputs : (acceptScan m s).inputs = s.inputs := rfl
@[simp] theorem acceptScan_replies : (acceptScan m s).replies = s.replies := rfl

end AcceptScan

section DbWrite
variable (i : Nat) (v : Half) (s : State)

@[simp] theorem dbWrite_busy : (dbWrite i v s).busy = s.busy := rfl
@[simp] theorem dbWrite_locked : (dbWrite i v s).locked = s.locked := rfl
@[simp] theorem dbWrite_errIll : (dbWrite i v s).errIll = s.errIll := rfl
@[simp] theorem dbWrite_errBusy : (dbWrite i v s).errBusy = s.errBusy := rfl
@[simp] theorem dbWrite_errLock : (dbWrite i v s).errLock = s.errLock := rfl
@[simp] theorem dbWrite_variant : (dbWrite i v s).variant = s.variant := rfl
@[simp] theorem dbWrite_scaled : (dbWrite i v s).scaled = s.scaled := rfl
@[simp] theorem dbWrite_srcBase : (dbWrite i v s).srcBase = s.srcBase := rfl
@[simp] theorem dbWrite_srcStride : (dbWrite i v s).srcStride = s.srcStride := rfl
@[simp] theorem dbWrite_pixIn : (dbWrite i v s).pixIn = s.pixIn := rfl
@[simp] theorem dbWrite_pixOut : (dbWrite i v s).pixOut = s.pixOut := rfl
@[simp] theorem dbWrite_lBase : (dbWrite i v s).lBase = s.lBase := rfl
@[simp] theorem dbWrite_lStride : (dbWrite i v s).lStride = s.lStride := rfl
@[simp] theorem dbWrite_lMode : (dbWrite i v s).lMode = s.lMode := rfl
@[simp] theorem dbWrite_cx : (dbWrite i v s).cx = s.cx := rfl
@[simp] theorem dbWrite_cy : (dbWrite i v s).cy = s.cy := rfl
@[simp] theorem dbWrite_src : (dbWrite i v s).src = s.src := rfl
@[simp] theorem dbWrite_unbacked : (dbWrite i v s).unbacked = s.unbacked := rfl
@[simp] theorem dbWrite_inputs : (dbWrite i v s).inputs = s.inputs := rfl
@[simp] theorem dbWrite_replies : (dbWrite i v s).replies = s.replies := rfl

end DbWrite

section AdvanceCursor
variable (s : State)

@[simp] theorem advanceCursor_locked : (advanceCursor s).locked = s.locked := rfl
@[simp] theorem advanceCursor_errIll : (advanceCursor s).errIll = s.errIll := rfl
@[simp] theorem advanceCursor_errBusy : (advanceCursor s).errBusy = s.errBusy := rfl
@[simp] theorem advanceCursor_errLock : (advanceCursor s).errLock = s.errLock := rfl
@[simp] theorem advanceCursor_variant : (advanceCursor s).variant = s.variant := rfl
@[simp] theorem advanceCursor_scaled : (advanceCursor s).scaled = s.scaled := rfl
@[simp] theorem advanceCursor_srcBase : (advanceCursor s).srcBase = s.srcBase := rfl
@[simp] theorem advanceCursor_srcStride : (advanceCursor s).srcStride = s.srcStride := rfl
@[simp] theorem advanceCursor_pixIn : (advanceCursor s).pixIn = s.pixIn := rfl
@[simp] theorem advanceCursor_pixOut : (advanceCursor s).pixOut = s.pixOut := rfl
@[simp] theorem advanceCursor_lBase : (advanceCursor s).lBase = s.lBase := rfl
@[simp] theorem advanceCursor_lStride : (advanceCursor s).lStride = s.lStride := rfl
@[simp] theorem advanceCursor_lMode : (advanceCursor s).lMode = s.lMode := rfl
@[simp] theorem advanceCursor_db : (advanceCursor s).db = s.db := rfl
@[simp] theorem advanceCursor_src : (advanceCursor s).src = s.src := rfl
@[simp] theorem advanceCursor_unbacked : (advanceCursor s).unbacked = s.unbacked := rfl
@[simp] theorem advanceCursor_inputs : (advanceCursor s).inputs = s.inputs := rfl
@[simp] theorem advanceCursor_replies : (advanceCursor s).replies = s.replies := rfl

end AdvanceCursor

section Answer
variable (r : Reply) (s : State)

@[simp] theorem answer_busy : (answer r s).busy = s.busy := rfl
@[simp] theorem answer_locked : (answer r s).locked = s.locked := rfl
@[simp] theorem answer_errIll : (answer r s).errIll = s.errIll := rfl
@[simp] theorem answer_errBusy : (answer r s).errBusy = s.errBusy := rfl
@[simp] theorem answer_errLock : (answer r s).errLock = s.errLock := rfl
@[simp] theorem answer_variant : (answer r s).variant = s.variant := rfl
@[simp] theorem answer_scaled : (answer r s).scaled = s.scaled := rfl
@[simp] theorem answer_srcBase : (answer r s).srcBase = s.srcBase := rfl
@[simp] theorem answer_srcStride : (answer r s).srcStride = s.srcStride := rfl
@[simp] theorem answer_pixIn : (answer r s).pixIn = s.pixIn := rfl
@[simp] theorem answer_pixOut : (answer r s).pixOut = s.pixOut := rfl
@[simp] theorem answer_lBase : (answer r s).lBase = s.lBase := rfl
@[simp] theorem answer_lStride : (answer r s).lStride = s.lStride := rfl
@[simp] theorem answer_lMode : (answer r s).lMode = s.lMode := rfl
@[simp] theorem answer_cx : (answer r s).cx = s.cx := rfl
@[simp] theorem answer_cy : (answer r s).cy = s.cy := rfl
@[simp] theorem answer_db : (answer r s).db = s.db := rfl
@[simp] theorem answer_src : (answer r s).src = s.src := rfl
@[simp] theorem answer_unbacked : (answer r s).unbacked = s.unbacked := rfl
@[simp] theorem answer_inputs : (answer r s).inputs = s.inputs := rfl
@[simp] theorem answer_replies : (answer r s).replies = r :: s.replies := rfl

end Answer

section PollStatus
variable (s : State)

@[simp] theorem pollStatus_busy : (pollStatus s).busy = s.busy := rfl
@[simp] theorem pollStatus_locked : (pollStatus s).locked = s.locked := rfl
@[simp] theorem pollStatus_errIll : (pollStatus s).errIll = s.errIll := rfl
@[simp] theorem pollStatus_errBusy : (pollStatus s).errBusy = s.errBusy := rfl
@[simp] theorem pollStatus_errLock : (pollStatus s).errLock = s.errLock := rfl
@[simp] theorem pollStatus_variant : (pollStatus s).variant = s.variant := rfl
@[simp] theorem pollStatus_scaled : (pollStatus s).scaled = s.scaled := rfl
@[simp] theorem pollStatus_srcBase : (pollStatus s).srcBase = s.srcBase := rfl
@[simp] theorem pollStatus_srcStride : (pollStatus s).srcStride = s.srcStride := rfl
@[simp] theorem pollStatus_pixIn : (pollStatus s).pixIn = s.pixIn := rfl
@[simp] theorem pollStatus_pixOut : (pollStatus s).pixOut = s.pixOut := rfl
@[simp] theorem pollStatus_lBase : (pollStatus s).lBase = s.lBase := rfl
@[simp] theorem pollStatus_lStride : (pollStatus s).lStride = s.lStride := rfl
@[simp] theorem pollStatus_lMode : (pollStatus s).lMode = s.lMode := rfl
@[simp] theorem pollStatus_cx : (pollStatus s).cx = s.cx := rfl
@[simp] theorem pollStatus_cy : (pollStatus s).cy = s.cy := rfl
@[simp] theorem pollStatus_db : (pollStatus s).db = s.db := rfl
@[simp] theorem pollStatus_src : (pollStatus s).src = s.src := rfl
@[simp] theorem pollStatus_unbacked : (pollStatus s).unbacked = s.unbacked := rfl
@[simp] theorem pollStatus_inputs : (pollStatus s).inputs = if s.busy then pollAgain s else s.inputs := rfl
@[simp] theorem pollStatus_replies : (pollStatus s).replies = .register (statusWord s) :: s.replies := rfl

end PollStatus

section ProducePixel
variable (a p : Word) (s : State)

@[simp] theorem producePixel_busy : (producePixel a p s).busy = s.busy := rfl
@[simp] theorem producePixel_locked : (producePixel a p s).locked = s.locked := rfl
@[simp] theorem producePixel_errIll : (producePixel a p s).errIll = s.errIll := rfl
@[simp] theorem producePixel_errBusy : (producePixel a p s).errBusy = s.errBusy := rfl
@[simp] theorem producePixel_errLock : (producePixel a p s).errLock = s.errLock := rfl
@[simp] theorem producePixel_variant : (producePixel a p s).variant = s.variant := rfl
@[simp] theorem producePixel_scaled : (producePixel a p s).scaled = s.scaled := rfl
@[simp] theorem producePixel_srcBase : (producePixel a p s).srcBase = s.srcBase := rfl
@[simp] theorem producePixel_srcStride : (producePixel a p s).srcStride = s.srcStride := rfl
@[simp] theorem producePixel_pixIn : (producePixel a p s).pixIn = s.pixIn := rfl
@[simp] theorem producePixel_pixOut : (producePixel a p s).pixOut = s.pixOut := rfl
@[simp] theorem producePixel_lBase : (producePixel a p s).lBase = s.lBase := rfl
@[simp] theorem producePixel_lStride : (producePixel a p s).lStride = s.lStride := rfl
@[simp] theorem producePixel_lMode : (producePixel a p s).lMode = s.lMode := rfl
@[simp] theorem producePixel_cx : (producePixel a p s).cx = s.cx := rfl
@[simp] theorem producePixel_cy : (producePixel a p s).cy = s.cy := rfl
@[simp] theorem producePixel_db : (producePixel a p s).db = s.db := rfl
@[simp] theorem producePixel_src : (producePixel a p s).src = Memory.write s.src a.toNat p := rfl
@[simp] theorem producePixel_unbacked : (producePixel a p s).unbacked = s.unbacked := rfl
@[simp] theorem producePixel_inputs : (producePixel a p s).inputs = s.inputs := rfl
@[simp] theorem producePixel_replies : (producePixel a p s).replies = s.replies := rfl

end ProducePixel

section Before
variable (s : State) (e : Input)

@[simp] theorem State.before_busy : (s.before e).busy = s.busy := rfl
@[simp] theorem State.before_locked : (s.before e).locked = s.locked := rfl
@[simp] theorem State.before_errIll : (s.before e).errIll = s.errIll := rfl
@[simp] theorem State.before_errBusy : (s.before e).errBusy = s.errBusy := rfl
@[simp] theorem State.before_errLock : (s.before e).errLock = s.errLock := rfl
@[simp] theorem State.before_variant : (s.before e).variant = s.variant := rfl
@[simp] theorem State.before_scaled : (s.before e).scaled = s.scaled := rfl
@[simp] theorem State.before_srcBase : (s.before e).srcBase = s.srcBase := rfl
@[simp] theorem State.before_srcStride : (s.before e).srcStride = s.srcStride := rfl
@[simp] theorem State.before_pixIn : (s.before e).pixIn = s.pixIn := rfl
@[simp] theorem State.before_pixOut : (s.before e).pixOut = s.pixOut := rfl
@[simp] theorem State.before_lBase : (s.before e).lBase = s.lBase := rfl
@[simp] theorem State.before_lStride : (s.before e).lStride = s.lStride := rfl
@[simp] theorem State.before_lMode : (s.before e).lMode = s.lMode := rfl
@[simp] theorem State.before_cx : (s.before e).cx = s.cx := rfl
@[simp] theorem State.before_cy : (s.before e).cy = s.cy := rfl
@[simp] theorem State.before_db : (s.before e).db = s.db := rfl
@[simp] theorem State.before_src : (s.before e).src = s.src := rfl
@[simp] theorem State.before_unbacked : (s.before e).unbacked = s.unbacked := rfl
@[simp] theorem State.before_inputs : (s.before e).inputs = e :: s.inputs := rfl
@[simp] theorem State.before_replies : (s.before e).replies = s.replies := rfl

end Before

section ApplyReset
variable (s : State)

@[simp] theorem applyReset_busy : (applyReset s).busy = State.reset.busy := rfl
@[simp] theorem applyReset_locked : (applyReset s).locked = State.reset.locked := rfl
@[simp] theorem applyReset_errIll : (applyReset s).errIll = State.reset.errIll := rfl
@[simp] theorem applyReset_errBusy : (applyReset s).errBusy = State.reset.errBusy := rfl
@[simp] theorem applyReset_errLock : (applyReset s).errLock = State.reset.errLock := rfl
@[simp] theorem applyReset_variant : (applyReset s).variant = State.reset.variant := rfl
@[simp] theorem applyReset_scaled : (applyReset s).scaled = State.reset.scaled := rfl
@[simp] theorem applyReset_srcBase : (applyReset s).srcBase = State.reset.srcBase := rfl
@[simp] theorem applyReset_srcStride : (applyReset s).srcStride = State.reset.srcStride := rfl
@[simp] theorem applyReset_pixIn : (applyReset s).pixIn = State.reset.pixIn := rfl
@[simp] theorem applyReset_pixOut : (applyReset s).pixOut = State.reset.pixOut := rfl
@[simp] theorem applyReset_lBase : (applyReset s).lBase = State.reset.lBase := rfl
@[simp] theorem applyReset_lStride : (applyReset s).lStride = State.reset.lStride := rfl
@[simp] theorem applyReset_lMode : (applyReset s).lMode = State.reset.lMode := rfl
@[simp] theorem applyReset_cx : (applyReset s).cx = State.reset.cx := rfl
@[simp] theorem applyReset_cy : (applyReset s).cy = State.reset.cy := rfl
@[simp] theorem applyReset_db : (applyReset s).db = State.reset.db := rfl
@[simp] theorem applyReset_src : (applyReset s).src = s.src := rfl
@[simp] theorem applyReset_unbacked : (applyReset s).unbacked = s.unbacked := rfl
@[simp] theorem applyReset_inputs : (applyReset s).inputs = s.inputs := rfl
@[simp] theorem applyReset_replies : (applyReset s).replies = s.replies := rfl

end ApplyReset

end Sys2Proof.Machine
end

