-- ==== Sys2Proof/Laws/Memory.lean ====
section
/-! SUPPORT. The laws of the sparse memories: a read after a write, the canonical form kept, the addresses
listed; and the same for the DisplayBuffer's entries and for source pixels. -/

namespace Sys2Proof.Machine

section Memory
variable {w : Nat} (m : Memory w) (a b : Nat) (v : BitVec w)

@[simp] theorem Memory.read_nil : Memory.read ([] : Memory w) a = unlisted w := rfl

/-- A read from the cells below, or above, a bound that excludes the address finds nothing. -/
theorem Memory.find?_filter_ne {p : Nat × BitVec w → Bool} (h : ∀ c, p c = true → c.1 ≠ a) :
    (m.filter p).find? (fun c => c.1 == a) = none := by
  rw [List.find?_eq_none]
  intro c hc
  simpa using h c (List.mem_filter.1 hc).2

/-- Filtering with a test that keeps every cell of the address does not change the read. -/
theorem Memory.find?_filter_eq {p : Nat × BitVec w → Bool} (h : ∀ c : Nat × BitVec w, c.1 = a → p c = true) :
    (m.filter p).find? (fun c => c.1 == a) = m.find? (fun c => c.1 == a) := by
  induction m with
  | nil => rfl
  | cons c t ih =>
    by_cases hc : c.1 = a
    · simp [h c hc, hc]
    · by_cases hp : p c = true
      · simp [hp, hc, ih]
      · simp [hp, hc, ih]

/-- The address written reads as the value written. -/
@[simp] theorem Memory.read_write_same : Memory.read (Memory.write m a v) a = v := by
  have hl : (m.filter fun c => decide (c.1 < a)).find? (fun c => c.1 == a) = none :=
    Memory.find?_filter_ne m a (by intro c hc; simp at hc; omega)
  have hr : (m.filter fun c => decide (a < c.1)).find? (fun c => c.1 == a) = none :=
    Memory.find?_filter_ne m a (by intro c hc; simp at hc; omega)
  unfold Memory.read Memory.write
  by_cases hv : v = unlisted w <;> simp [List.find?_append, hl, hr, hv]

/-- Every other address reads as before. -/
theorem Memory.read_write_other (h : b ≠ a) : Memory.read (Memory.write m a v) b = Memory.read m b := by
  have hmid : (if v = unlisted w then [] else [(a, v)]).find? (fun c => c.1 == b) = none := by
    split
    · rfl
    · simp; omega
  unfold Memory.read Memory.write
  rcases Nat.lt_or_gt_of_ne h with hb | hb
  · have hr : (m.filter fun c => decide (a < c.1)).find? (fun c => c.1 == b) = none :=
      Memory.find?_filter_ne m b (by intro c hc; simp at hc; omega)
    rw [List.find?_append, List.find?_append, hmid, hr,
      Memory.find?_filter_eq m b (p := fun c => decide (c.1 < a)) (by intro c hc; simp; omega)]
    simp
  · have hl : (m.filter fun c => decide (c.1 < a)).find? (fun c => c.1 == b) = none :=
      Memory.find?_filter_ne m b (by intro c hc; simp at hc; omega)
    rw [List.find?_append, List.find?_append, hmid, hl,
      Memory.find?_filter_eq m b (p := fun c => decide (a < c.1)) (by intro c hc; simp; omega)]
    simp

/-- A cell of the memory after a write is the cell written, not the default, or was there before. -/
theorem Memory.mem_write {c : Nat × BitVec w} (h : c ∈ Memory.write m a v) :
    (c = (a, v) ∧ v ≠ unlisted w) ∨ (c ∈ m ∧ c.1 ≠ a) := by
  unfold Memory.write at h
  simp only [List.mem_append, List.mem_filter, decide_eq_true_eq] at h
  rcases h with (⟨hm, hc⟩ | hc) | ⟨hm, hc⟩
  · exact .inr ⟨hm, by omega⟩
  · split at hc
    · cases hc
    · exact .inl ⟨by simpa using hc, by assumption⟩
  · exact .inr ⟨hm, by omega⟩

/-- A write keeps the canonical form. -/
theorem Memory.wf_write (h : Memory.wf m) : Memory.wf (Memory.write m a v) := by
  refine ⟨?_, fun c hc => ?_⟩
  · unfold Memory.write
    refine List.pairwise_append.2 ⟨List.pairwise_append.2 ⟨h.1.filter _, ?_, ?_⟩, h.1.filter _, ?_⟩
    · split <;> simp
    · intro c hc d hd
      split at hd
      · cases hd
      · simp at hc hd
        simp [hd]; omega
    · intro c hc d hd
      simp only [List.mem_append, List.mem_filter, decide_eq_true_eq] at hc hd
      rcases hc with ⟨_, hc⟩ | hc
      · omega
      · split at hc
        · cases hc
        · simp at hc
          simp [hc]; omega
  · rcases Memory.mem_write m a v hc with ⟨rfl, hv⟩ | ⟨hm, _⟩
    · exact hv
    · exact h.2 c hm

end Memory

/-- The empty memory is in canonical form. -/
theorem Memory.wf_nil {w : Nat} : Memory.wf ([] : Memory w) := ⟨.nil, by simp⟩

/-- Both memories of the reset state are in canonical form. -/
theorem reset_memories_wf : Memory.wf State.reset.db ∧ Memory.wf State.reset.src := ⟨Memory.wf_nil, Memory.wf_nil⟩

section DisplayBuffer
variable (i j k : Nat) (v : Half) (s : State)

/-- One byte after an entry is written: one of the entry's two bytes, or as before. -/
theorem dbByte_dbWrite :
    dbByte k (dbWrite i v s) =
      if k = 2 * i then v.extractLsb' 0 8
      else if k = 2 * i + 1 then v.extractLsb' 8 8 else dbByte k s := by
  unfold dbByte
  show Memory.read (Memory.write (Memory.write s.db _ _) _ _) k = _
  by_cases h1 : k = 2 * i + 1
  · subst h1
    simp
  · rw [Memory.read_write_other _ _ _ _ h1]
    by_cases h0 : k = 2 * i
    · subst h0
      simp
    · rw [Memory.read_write_other _ _ _ _ h0]
      simp [h0, h1]

/-- An entry put together from its two bytes is the entry. -/
theorem append_bytes : (v.extractLsb' 8 8 : Byte) ++ (v.extractLsb' 0 8 : Byte) = v := by
  rw [BitVec.extractLsb'_append_extractLsb'_eq_extractLsb' (by omega)]
  exact BitVec.extractLsb'_eq_self

/-- `DB[j]` after `DB[i] <- v`. -/
theorem dbRead_dbWrite : dbRead j (dbWrite i v s) = if j = i then v else dbRead j s := by
  unfold dbRead
  rw [dbByte_dbWrite, dbByte_dbWrite]
  by_cases h : j = i
  · subst h
    simp [append_bytes]
  · have h1 : ¬ 2 * j + 1 = 2 * i := by omega
    have h3 : ¬ 2 * j = 2 * i := by omega
    have h4 : ¬ 2 * j = 2 * i + 1 := by omega
    simp [h, h1, h3, h4]

/-- Writing an entry keeps the DisplayBuffer's canonical form. -/
theorem dbWrite_wf (h : Memory.wf s.db) : Memory.wf (dbWrite i v s).db :=
  Memory.wf_write _ _ _ (Memory.wf_write _ _ _ h)

/-- The bytes listed after an entry is written are its two or were listed before. -/
theorem mem_dbWrite {c : Host.Cell} (h : c ∈ (dbWrite i v s).db) :
    c.1 = 2 * i ∨ c.1 = 2 * i + 1 ∨ c ∈ s.db := by
  rcases Memory.mem_write _ _ _ h with ⟨rfl, _⟩ | ⟨h, _⟩
  · exact .inr (.inl rfl)
  · rcases Memory.mem_write _ _ _ h with ⟨rfl, _⟩ | ⟨h, _⟩
    · exact .inl rfl
    · exact .inr (.inr h)

/-- What is read of the DisplayBuffer depends on its bytes only. -/
theorem dbRead_congr {s t : State} (h : t.db = s.db) : dbRead i t = dbRead i s := by
  simp [dbRead, dbByte, h]

/-- Advancing the cursor reads and writes no entry. -/
@[simp] theorem dbRead_advanceCursor : dbRead i (advanceCursor s) = dbRead i s := rfl

/-- A DisplayBuffer with nothing listed is all zero, as after reset. -/
theorem dbRead_of_db_nil {s : State} (h : s.db = []) : dbRead i s = 0 := by
  simp [dbRead, dbByte, h, unlisted]

end DisplayBuffer

section Source
variable (a b p : Word) (s : State)

/-- A source pixel after the producer's store. -/
theorem srcMem_producePixel : srcMem b (producePixel a p s) = if b = a then p else srcMem b s := by
  by_cases h : b = a
  · subst h
    simp [srcMem]
  · have : b.toNat ≠ a.toNat := fun e => h (BitVec.eq_of_toNat_eq e)
    simp [srcMem, h, Memory.read_write_other _ _ _ _ this]

/-- The producer's store keeps the canonical form of source memory. -/
theorem producePixel_wf (h : Memory.wf s.src) : Memory.wf (producePixel a p s).src := Memory.wf_write _ _ _ h

/-- `SrcRead(a)` answers `SrcMem(a)` exactly where the address is admitted. -/
theorem srcRead_eq_some : srcRead a s = some p ↔ srcAdmit a s = true ∧ srcMem a s = p := by
  simp [srcRead]

/-- `SrcRead(a)` answers nothing exactly where the address is not admitted. -/
theorem srcRead_eq_none : srcRead a s = none ↔ srcAdmit a s = false := by simp [srcRead]

end Source

end Sys2Proof.Machine
end

