-- ==== Sys2Proof/Laws/Ops.lean ====
section
/-! SUPPORT. One lemma per shared operation that says everything it can do, and, from them, what one action
and one step can do: the lemmas later proofs cite instead of unfolding `step`. -/

namespace Sys2Proof.Machine

section Lanes
variable {w v : Nat} (l : Lanes w) (i j : Fin 4) (x : BitVec w) (f : BitVec w → BitVec v)

/-- A lane after a lane is written. -/
theorem Lanes.get_set : (l.set i x).get j = if j = i then x else l.get j := by
  fin_cases i <;> fin_cases j <;> rfl

/-- Lane i of a lanewise function is the function of lane i. -/
@[simp] theorem Lanes.get_map : (l.map f).get i = f (l.get i) := by
  fin_cases i <;> rfl

end Lanes

section Guard
variable (effect : State → State) (s t : State)

/-- A guarded command while BUSY = 1 raises ERR_BUSY. -/
theorem unlessBusy_busy (h : s.busy = true) : unlessBusy effect s = .next (raiseError .errBusy s) := by
  simp [unlessBusy, h]

/-- A guarded command while BUSY = 0 has its effect. -/
theorem unlessBusy_idle (h : s.busy = false) : unlessBusy effect s = .next (effect s) := by
  simp [unlessBusy, h]

/-- A guarded command always answers: rejected while BUSY = 1, its effect otherwise. -/
theorem unlessBusy_next (h : unlessBusy effect s = .next t) :
    (s.busy = true ∧ t = raiseError .errBusy s) ∨ (s.busy = false ∧ t = effect s) := by
  cases hb : s.busy
  · rw [unlessBusy_idle _ _ hb] at h
    exact .inr ⟨rfl, (Host.Outcome.next.inj h).symm⟩
  · rw [unlessBusy_busy _ _ hb] at h
    exact .inl ⟨rfl, (Host.Outcome.next.inj h).symm⟩

end Guard

section Commands
variable (i : Instr) (w : Word) (s t : State)

theorem exec_nop : exec .nop s = unlessBusy (fun s => s) s := rfl
theorem exec_conv : exec .conv s = unlessBusy (convertLane0 convert) s := rfl
theorem exec_convs : exec .convs s = unlessBusy (convertLane0 convertSwapped) s := rfl
theorem exec_conv4 : exec .conv4 s = unlessBusy (convertLanes convert) s := rfl
theorem exec_conv4s : exec .conv4s s = unlessBusy (convertLanes convertSwapped) s := rfl
theorem exec_crop : exec .crop s = unlessBusy (acceptScan .crop) s := rfl
theorem exec_scale : exec .scale s = unlessBusy (acceptScan .scaledNearest) s := rfl
theorem exec_decim2 : exec .decim2 s = unlessBusy (acceptScan .integerDecimate2x) s := rfl
theorem exec_run : exec .run s = unlessBusy (fun s => acceptScan (select s.variant s.scaled) s) s := rfl

/-- What a command that answers has done: rejected, nothing, lanes converted, or a scan accepted. -/
theorem exec_next (h : exec i s = .next t) :
    (s.busy = true ∧ t = raiseError .errBusy s) ∨
    (s.busy = false ∧
      ((i = .nop ∧ t = s) ∨
       (i = .conv ∧ t = convertLane0 convert s) ∨
       (i = .convs ∧ t = convertLane0 convertSwapped s) ∨
       (i = .conv4 ∧ t = convertLanes convert s) ∨
       (i = .conv4s ∧ t = convertLanes convertSwapped s) ∨
       (i = .crop ∧ t = acceptScan .crop s) ∨
       (i = .scale ∧ t = acceptScan .scaledNearest s) ∨
       (i = .decim2 ∧ t = acceptScan .integerDecimate2x s) ∨
       (i = .run ∧ t = acceptScan (select s.variant s.scaled) s))) := by
  cases i
  · rcases unlessBusy_next _ _ _ (exec_nop s ▸ h) with h | h <;> simp [h]
  · rcases unlessBusy_next _ _ _ (exec_conv s ▸ h) with h | h <;> simp [h]
  · rcases unlessBusy_next _ _ _ (exec_convs s ▸ h) with h | h <;> simp [h]
  · rcases unlessBusy_next _ _ _ (exec_conv4 s ▸ h) with h | h <;> simp [h]
  · rcases unlessBusy_next _ _ _ (exec_conv4s s ▸ h) with h | h <;> simp [h]
  · rcases unlessBusy_next _ _ _ (exec_crop s ▸ h) with h | h <;> simp [h]
  · rcases unlessBusy_next _ _ _ (exec_scale s ▸ h) with h | h <;> simp [h]
  · rcases unlessBusy_next _ _ _ (exec_decim2 s ▸ h) with h | h <;> simp [h]
  · rcases unlessBusy_next _ _ _ (exec_run s ▸ h) with h | h <;> simp [h]

/-- A converter command's effect is a new PIX_OUT. -/
theorem convertLane0_eq (f : Word → Half) :
    convertLane0 f s = setPixOut (s.pixOut.set 0 (f (s.pixIn.get 0))) s := rfl

/-- A 4-wide converter command's effect is a new PIX_OUT. -/
theorem convertLanes_eq (f : Word → Half) : convertLanes f s = setPixOut (s.pixIn.map f) s := rfl

/-- A CMD write never faults and is never refused: ERR_BUSY, ERR_ILL, or a command performed. -/
theorem issueCommand_next (h : issueCommand w s = .next t) :
    (s.busy = true ∧ t = raiseError .errBusy s) ∨
    (s.busy = false ∧ (∃ e, decode w = .error e) ∧ t = raiseError .errIll s) ∨
    (s.busy = false ∧ ∃ i, decode w = .ok i ∧ exec i s = .next t) := by
  unfold issueCommand at h
  cases hb : s.busy
  · rw [hb] at h
    cases hd : decode w with
    | error e =>
      rw [hd] at h
      exact .inr (.inl ⟨rfl, ⟨e, rfl⟩, (Host.Outcome.next.inj h).symm⟩)
    | ok i =>
      rw [hd] at h
      exact .inr (.inr ⟨rfl, i, rfl, h⟩)
  · rw [hb] at h
    exact .inl ⟨rfl, (Host.Outcome.next.inj h).symm⟩

/-- A CFG write: rejected once LOCKED, the two fields otherwise. -/
theorem writeCfg_cases :
    (s.locked = true ∧ writeCfg w s = raiseError .errLock s) ∨
    (s.locked = false ∧ writeCfg w s = setCfg w s) := by
  cases h : s.locked <;> simp [writeCfg, h]

end Commands

section Region
variable (m : RenderMode) (v : PanelVariant)

theorem regionWidth_pos : 0 < regionWidth m v := by cases m <;> cases v <;> decide
theorem regionHeight_pos : 0 < regionHeight m v := by cases m <;> cases v <;> decide
theorem regionWidth_le : regionWidth m v ≤ 184 := by cases m <;> cases v <;> decide
theorem regionHeight_le : regionHeight m v ≤ 96 := by cases m <;> cases v <;> decide

end Region

section Cursor
variable (s : State)

/-- The column after a pixel step inside the region. -/
theorem advanceCursor_cx (hx : s.cx.toNat < regionWidth s.lMode s.variant) :
    (advanceCursor s).cx.toNat =
      if s.cx.toNat + 1 = regionWidth s.lMode s.variant then 0 else s.cx.toNat + 1 := by
  have hw := regionWidth_le s.lMode s.variant
  have h1 : (s.cx + 1).toNat = s.cx.toNat + 1 := by simp; omega
  show (if (s.cx + 1).toNat = regionWidth s.lMode s.variant then (0 : BitVec 8) else s.cx + 1).toNat = _
  rw [h1]
  split
  · rfl
  · exact h1

/-- The row after a pixel step inside the region. -/
theorem advanceCursor_cy (hx : s.cx.toNat < regionWidth s.lMode s.variant)
    (hy : s.cy.toNat < regionHeight s.lMode s.variant) :
    (advanceCursor s).cy.toNat =
      if s.cx.toNat + 1 = regionWidth s.lMode s.variant then s.cy.toNat + 1 else s.cy.toNat := by
  have hw := regionWidth_le s.lMode s.variant
  have hh := regionHeight_le s.lMode s.variant
  have h1 : (s.cx + 1).toNat = s.cx.toNat + 1 := by simp; omega
  have h2 : (s.cy + 1).toNat = s.cy.toNat + 1 := by simp; omega
  show (if (s.cx + 1).toNat = regionWidth s.lMode s.variant then s.cy + 1 else s.cy).toNat = _
  rw [h1]
  split
  · exact h2
  · rfl

/-- BUSY is cleared by the step at the last position of the region, and by no other. -/
theorem advanceCursor_done (hb : s.busy = true) (hx : s.cx.toNat < regionWidth s.lMode s.variant)
    (hy : s.cy.toNat < regionHeight s.lMode s.variant) :
    (advanceCursor s).busy = false ↔
      s.cx.toNat + 1 = regionWidth s.lMode s.variant ∧ s.cy.toNat + 1 = regionHeight s.lMode s.variant := by
  have h := advanceCursor_cy s hx hy
  have hd : (advanceCursor s).busy =
      (s.busy && decide ((advanceCursor s).cy.toNat ≠ regionHeight s.lMode s.variant)) := rfl
  rw [hd, hb, h]
  simp only [Bool.true_and, decide_eq_false_iff_not, ne_eq, not_not]
  split <;> omega

end Cursor

section Wait
variable (s : State)

/-- `wait` ends with the read that shows BUSY = 0. -/
theorem pollStatus_of_idle (h : s.busy = false) : pollStatus s = answer (.register (statusWord s)) s := by
  simp [pollStatus, h, answer]

/-- While BUSY = 1 `wait` reads STATUS and polls again. -/
theorem pollStatus_of_busy (h : s.busy = true) :
    pollStatus s = { answer (.register (statusWord s)) s with inputs := pollAgain s } := by
  simp [pollStatus, h]

/-- What comes before the next read: another agent's waiting action, else a pixel step where it has a
successor, else nothing. -/
theorem pollAgain_cases :
    (∃ e rest, s.inputs = e :: rest ∧ actsDuringWait e = true ∧ pollAgain s = e :: .waitIdle :: rest) ∨
    ((∀ e, s.inputs.head? = some e → actsDuringWait e = false) ∧
      ((pixelStepAdmitted s = true ∧ pollAgain s = .engine :: .waitIdle :: s.inputs) ∨
       (pixelStepAdmitted s = false ∧ pollAgain s = .waitIdle :: s.inputs))) := by
  unfold pollAgain
  cases hi : s.inputs with
  | nil => cases hp : pixelStepAdmitted s <;> simp
  | cons e rest => cases he : actsDuringWait e <;> cases hp : pixelStepAdmitted s <;> simp [he]

end Wait

section Engine
variable (s t : State)

/-- A pixel step that answers read an admitted pixel, wrote one entry and advanced the cursor. -/
theorem pixelStep_next :
    pixelStep s = .next t ↔
      srcAdmit (scanAddress s s.cx.toNat s.cy.toNat) s = true ∧
      dbIndex s.lMode s.variant s.cx.toNat s.cy.toNat < Config.dbCap ∧
      t = advanceCursor (dbWrite (dbIndex s.lMode s.variant s.cx.toNat s.cy.toNat)
        (converterOf s.lMode (srcMem (scanAddress s s.cx.toNat s.cy.toNat) s)) s) := by
  unfold pixelStep srcRead
  by_cases ha : srcAdmit (scanAddress s s.cx.toNat s.cy.toNat) s = true
  · by_cases hd : dbIndex s.lMode s.variant s.cx.toNat s.cy.toNat < Config.dbCap
    · simp [ha, hd, eq_comm]
    · simp [ha, hd]
  · simp [ha]

/-- A pixel step faults only on a source address that is not backed, or on an index beyond DB_CAP. -/
theorem pixelStep_fault (f : Fault) :
    pixelStep s = .fault f ↔
      (f = .sourceNotAdmitted ∧ srcAdmit (scanAddress s s.cx.toNat s.cy.toNat) s = false) ∨
      (f = .dbIndexOutOfRange ∧ srcAdmit (scanAddress s s.cx.toNat s.cy.toNat) s = true ∧
        ¬ dbIndex s.lMode s.variant s.cx.toNat s.cy.toNat < Config.dbCap) := by
  unfold pixelStep srcRead
  by_cases ha : srcAdmit (scanAddress s s.cx.toNat s.cy.toNat) s = true
  · by_cases hd : dbIndex s.lMode s.variant s.cx.toNat s.cy.toNat < Config.dbCap
    · simp [ha, hd]
    · simp [ha, hd, eq_comm]
  · simp [ha, eq_comm]

/-- A pixel step is never refused. -/
theorem pixelStep_not_refused (r : Refusal) : pixelStep s ≠ .refused r := by
  unfold pixelStep
  split
  · simp
  · dsimp only
    split <;> simp

/-- The engine does not move while BUSY = 0. -/
theorem engineTurn_idle (h : s.busy = false) : engineTurn s = .next s := by simp [engineTurn, h]

/-- The engine takes a pixel step while BUSY = 1. -/
theorem engineTurn_busy (h : s.busy = true) : engineTurn s = pixelStep s := by simp [engineTurn, h]

/-- What the engine's turn that answers has done. -/
theorem engineTurn_next (h : engineTurn s = .next t) :
    (s.busy = false ∧ t = s) ∨ (s.busy = true ∧ pixelStep s = .next t) := by
  cases hb : s.busy
  · rw [engineTurn_idle _ hb] at h
    exact .inl ⟨rfl, (Host.Outcome.next.inj h).symm⟩
  · rw [engineTurn_busy _ hb] at h
    exact .inr ⟨rfl, h⟩

end Engine

/-- What one action `e` that answers can have done to a state: every agent's move, named once. -/
inductive Effect (s : State) : Input → State → Prop where
  | ignored {e} : Effect s e s
  | answered {e} (r : Reply) : Effect s e (answer r s)
  | polled : Effect s .waitIdle (pollStatus s)
  | rejected {e} (f : ErrorFlag) : Effect s e (raiseError f s)
  | acknowledged {e} (w : Word) : Effect s e (ackErrors w s)
  | configured {e} (w : Word) : s.locked = false → Effect s e (setCfg w s)
  | setBase {e} (w : Word) : Effect s e { s with srcBase := w }
  | setStride {e} (w : Word) : Effect s e { s with srcStride := w }
  | setLane {e} (i : Fin 4) (w : Word) : Effect s e { s with pixIn := s.pixIn.set i w }
  | converted (w : Word) (l : Lanes 16) : s.busy = false →
      (∃ i, decode w = .ok i ∧ (i = .conv ∨ i = .convs ∨ i = .conv4 ∨ i = .conv4s)) →
      Effect s (.portWrite .word 0x00 w) (setPixOut l s)
  | accepted (w : Word) (m : RenderMode) : s.busy = false →
      (decode w = .ok .crop ∧ m = .crop ∨ decode w = .ok .scale ∧ m = .scaledNearest ∨
        decode w = .ok .decim2 ∧ m = .integerDecimate2x ∨
        decode w = .ok .run ∧ m = select s.variant s.scaled) →
      Effect s (.portWrite .word 0x00 w) (acceptScan m s)
  | stepped (t : State) : s.busy = true → pixelStep s = .next t → Effect s .engine t
  | produced (a p : Word) : Effect s (.produce a p) (producePixel a p s)
  | backed (u : List AddrRange) : Effect s (.setBacking u) { s with unbacked := u }
  | wasReset : Effect s .reset (applyReset s)

/-- The port's targets, read back: a register is reached at its own offset by a word access. -/
theorem portTarget_reg {width : Width} {offset : Nat} {r : Reg} (h : portTarget width offset = some (.reg r)) :
    width = .word ∧ offset = registerOffset r := by
  unfold portTarget at h
  cases width with
  | byte => cases h
  | half => cases h
  | word =>
    refine ⟨rfl, ?_⟩
    dsimp only at h
    split at h
    · rename_i hw
      have ho := hw.2
      change offset < 256 at ho
      clear hw
      revert h
      interval_cases offset <;> simp [targetAt, registerMap, List.lookup] <;> rintro rfl <;> rfl
    · cases h

/-- What a command that is issued while BUSY = 0 has done: NOP nothing, a converter command new PIX_OUT lanes,
a scan command its acceptance. -/
theorem exec_effect {w : Word} {i : Instr} {s t : State} (hb : s.busy = false) (hd : decode w = .ok i)
    (he : exec i s = .next t) : Effect s (.portWrite .word 0x00 w) t := by
  have done {effect : State → State} (h : exec i s = unlessBusy effect s) : t = effect s :=
    (Host.Outcome.next.inj ((unlessBusy_idle effect s hb).symm.trans (h.symm.trans he))).symm
  cases i with
  | nop => rw [done (exec_nop s)]; exact .ignored
  | conv => rw [done (exec_conv s)]; exact .converted w _ hb ⟨_, hd, by simp⟩
  | convs => rw [done (exec_convs s)]; exact .converted w _ hb ⟨_, hd, by simp⟩
  | conv4 => rw [done (exec_conv4 s)]; exact .converted w _ hb ⟨_, hd, by simp⟩
  | conv4s => rw [done (exec_conv4s s)]; exact .converted w _ hb ⟨_, hd, by simp⟩
  | crop => rw [done (exec_crop s)]; exact .accepted w _ hb (by simp [hd])
  | scale => rw [done (exec_scale s)]; exact .accepted w _ hb (by simp [hd])
  | decim2 => rw [done (exec_decim2 s)]; exact .accepted w _ hb (by simp [hd])
  | run => rw [done (exec_run s)]; exact .accepted w _ hb (by simp [hd])

/-- What a CMD write that answers has done. -/
theorem issueCommand_effect {w : Word} {s t : State} (h : issueCommand w s = .next t) :
    Effect s (.portWrite .word 0x00 w) t := by
  rcases issueCommand_next _ _ _ h with ⟨_, rfl⟩ | ⟨_, _, rfl⟩ | ⟨hb, i, hd, he⟩
  · exact .rejected _
  · exact .rejected _
  · exact exec_effect hb hd he

/-- What a register write that answers has done. -/
theorem writeRegister_effect {r : Reg} {w : Word} {s t : State} (h : writeRegister r w s = .next t) :
    Effect s (.portWrite .word (registerOffset r) w) t := by
  cases r with
  | cmd => exact issueCommand_effect h
  | cfg =>
    cases Host.Outcome.next.inj h
    rcases writeCfg_cases w s with ⟨_, h⟩ | ⟨hl, h⟩
    · rw [h]; exact .rejected _
    · rw [h]; exact .configured w hl
  | status => cases Host.Outcome.next.inj h; exact .acknowledged w
  | srcBase => cases Host.Outcome.next.inj h; exact .setBase w
  | srcStride => cases Host.Outcome.next.inj h; exact .setStride w
  | pixIn i => cases Host.Outcome.next.inj h; exact .setLane i w
  | rmode => cases Host.Outcome.next.inj h; exact .ignored
  | panelW => cases Host.Outcome.next.inj h; exact .ignored
  | panelH => cases Host.Outcome.next.inj h; exact .ignored
  | bufSize => cases Host.Outcome.next.inj h; exact .ignored
  | pixOut i => cases Host.Outcome.next.inj h; exact .ignored

/-- What an action that answers has done. -/
theorem perform_effect {e : Input} {s t : State} (h : perform e s = .next t) : Effect s e t := by
  cases e with
  | portWrite width offset w =>
    change portWrite width offset w s = _ at h
    unfold portWrite at h
    cases hp : portTarget width offset with
    | none => rw [hp] at h; cases h
    | some g =>
      rw [hp] at h
      cases g with
      | reserved => cases Host.Outcome.next.inj h; exact .ignored
      | reg r =>
        obtain ⟨rfl, rfl⟩ := portTarget_reg hp
        exact writeRegister_effect h
  | portRead width offset =>
    change portRead width offset s = _ at h
    unfold portRead at h
    split at h
    · cases h
    · cases Host.Outcome.next.inj h; exact .answered _
  | waitIdle => cases Host.Outcome.next.inj h; exact .polled
  | dbRead i =>
    change dbReadPort i s = _ at h
    unfold dbReadPort at h
    split at h
    · cases Host.Outcome.next.inj h; exact .answered _
    · cases h
  | dbByte k =>
    change dbBytePort k s = _ at h
    unfold dbBytePort at h
    split at h
    · cases Host.Outcome.next.inj h; exact .answered _
    · cases h
  | engine =>
    rcases engineTurn_next _ _ h with ⟨_, rfl⟩ | ⟨hb, hp⟩
    · exact .ignored
    · exact .stepped t hb hp
  | produce a p => cases Host.Outcome.next.inj h; exact .produced a p
  | setBacking u => cases Host.Outcome.next.inj h; exact .backed u
  | reset => cases Host.Outcome.next.inj h; exact .wasReset

/-- A step performs the next action. -/
@[simp] theorem step_before (s : State) (e : Input) : step (s.before e) = perform e s := rfl

/-- With no action left the engine has its turn. -/
theorem step_nil {s : State} (h : s.inputs = []) : step s = engineTurn s := by simp [step, h]

/-- A state with an action left is that action before the rest. -/
theorem eq_before {s : State} {e : Input} {rest : List Input} (h : s.inputs = e :: rest) :
    s = { s with inputs := rest }.before e := by
  cases s
  cases h
  rfl

/-- What one step that answers has done: the engine's turn when no action is left, else one action. -/
theorem step_next {s t : State} (h : step s = .next t) :
    (s.inputs = [] ∧ engineTurn s = .next t) ∨ ∃ e s₀, s = State.before s₀ e ∧ Effect s₀ e t := by
  cases hi : s.inputs with
  | nil => exact .inl ⟨rfl, by rwa [step_nil hi] at h⟩
  | cons e rest =>
    refine .inr ⟨e, _, eq_before hi, perform_effect ?_⟩
    rw [← step_before, ← eq_before hi]
    exact h

end Sys2Proof.Machine
end

