-- ==== Sys2Proof/Laws/PerInstr.lean ====
section
/-! SUPPORT. The family stated command by command: a command is well formed and its word decodes to it. -/

namespace Sys2Proof.Laws

/-- The word of a well-formed command decodes to the command (spec/30_encoding.md R91). -/
def EncodeRoundTrip.Statement (i : Instr) : Prop := i.wf = true ∧ decode (encode i) = .ok i

theorem EncodeRoundTrip.nop : EncodeRoundTrip.Statement .nop := ⟨rfl, rfl⟩
theorem EncodeRoundTrip.conv : EncodeRoundTrip.Statement .conv := ⟨rfl, rfl⟩
theorem EncodeRoundTrip.convs : EncodeRoundTrip.Statement .convs := ⟨rfl, rfl⟩
theorem EncodeRoundTrip.conv4 : EncodeRoundTrip.Statement .conv4 := ⟨rfl, rfl⟩
theorem EncodeRoundTrip.conv4s : EncodeRoundTrip.Statement .conv4s := ⟨rfl, rfl⟩
theorem EncodeRoundTrip.crop : EncodeRoundTrip.Statement .crop := ⟨rfl, rfl⟩
theorem EncodeRoundTrip.scale : EncodeRoundTrip.Statement .scale := ⟨rfl, rfl⟩
theorem EncodeRoundTrip.decim2 : EncodeRoundTrip.Statement .decim2 := ⟨rfl, rfl⟩
theorem EncodeRoundTrip.run : EncodeRoundTrip.Statement .run := ⟨rfl, rfl⟩

end Sys2Proof.Laws
end

