-- ==== Sys2Proof/Laws/Run.lean ====
section
/-! SUPPORT. Runs of several steps, put together. -/

namespace Sys2Proof.Machine

section Any
variable {M : Host.Core} {k j : Nat} {s t u : M.State}

/-- On any machine: a run whose first step answers goes on from there. -/
theorem anyRun_succ (h : M.step s = .next t) : M.run (k + 1) s = M.run k t := by
  simp [Host.Core.run, h]

/-- On any machine: a run that answers took a first step that answers. -/
theorem anyRun_succ_next (h : M.run (k + 1) s = .next t) : ∃ u, M.step s = .next u ∧ M.run k u = .next t := by
  cases hs : M.step s with
  | next u => exact ⟨u, rfl, by rw [← anyRun_succ hs]; exact h⟩
  | fault r => simp [Host.Core.run, hs] at h
  | refused r => simp [Host.Core.run, hs] at h

/-- On any machine: two runs, one after the other. -/
theorem anyRun_add (h : M.run k s = .next u) : M.run (k + j) s = M.run j u := by
  induction k generalizing s with
  | zero =>
    cases h
    rw [Nat.zero_add]
  | succ k ih =>
    obtain ⟨v, hv, hr⟩ := anyRun_succ_next h
    rw [Nat.succ_add, anyRun_succ hv]
    exact ih hr

end Any

section Core
variable {k j : Nat} {s t u : State}

/-- A run whose first step answers goes on from there. -/
theorem run_succ (h : step s = .next t) : Host.Core.run core (k + 1) s = Host.Core.run core k t :=
  anyRun_succ (M := core) h

/-- A run of one step is the step. -/
theorem run_one (h : step s = .next t) : Host.Core.run core 1 s = .next t := run_succ h

/-- A run that answers took a first step that answers. -/
theorem run_succ_next (h : Host.Core.run core (k + 1) s = .next t) :
    ∃ u : State, step s = .next u ∧ Host.Core.run core k u = .next t := anyRun_succ_next (M := core) h

/-- Two runs, one after the other. -/
theorem run_add (h : Host.Core.run core k s = .next u) :
    Host.Core.run core (k + j) s = Host.Core.run core j u := anyRun_add (M := core) h

end Core

end Sys2Proof.Machine
end

