-- ==== Sys2Proof/Tests/Slice0.lean ====
section
/-! SUPPORT. The model's own tests: expected values are those of spec/95_test_vectors.md, cited by vector.
Then, for each statement with hypotheses, a witness: concrete states and operands that meet them. -/

namespace Sys2Proof.Tests

open Sys2Proof.Machine

/-- The state a step hands on, or the state itself where it stops. -/
def after (o : Host.Outcome State Fault Refusal) (s : State) : State :=
  match o with
  | .next t => t
  | .fault _ => s
  | .refused _ => s

/-- The state after reset with some actions placed, each performed in turn. -/
def played (s : State) : List Input → State
  | [] => s
  | e :: es => played (after (perform e s) s) es

/-- A state with a scan of strategy `m` just accepted on variant `v`, base 0x2000 and stride 240. -/
def scanning (m : RenderMode) (v : PanelVariant) : State :=
  acceptScan m { State.reset with variant := v, srcBase := 0x2000, srcStride := 240 }

/-- The same scan with the cursor at (x, y). -/
def scanningAt (m : RenderMode) (v : PanelVariant) (x y : BitVec 8) : State :=
  { scanning m v with cx := x, cy := y }

/-- Lanes of V-K1 to V-K4. -/
def lanesK : State :=
  { State.reset with pixIn := ⟨0x00F80000, 0x0000FC00, 0x000000F8, 0x12345678⟩ }

/-! ## Well-formedness: each check refuses an ill-formed term -/

theorem test_wf_byte_access_refused : (Input.portRead .byte 0x04).wf = false := by decide
theorem test_wf_half_access_refused : (Input.portWrite .half 0x20 0).wf = false := by decide
theorem test_wf_misaligned_access_refused : (Input.portRead .word 0x21).wf = false := by decide
theorem test_wf_offset_beyond_space_refused : (Input.portWrite .word 0x100 0).wf = false := by decide
theorem test_wf_last_offset_accepted : (Input.portRead .word 0xFC).wf = true := by decide
theorem test_wf_entry_index_refused : (Input.dbRead 17664).wf = false := by decide
theorem test_wf_byte_index_refused : (Input.dbByte 35328).wf = false := by decide
theorem test_wf_line_entry_index_refused : (Line.db 17664).wf = false := by decide
theorem test_wf_line_byte_index_refused : (Line.dbb 35328).wf = false := by decide

/-! ## Decoding: words written out from spec/30_encoding.md R90, R91 -/

theorem test_decode_nop : decode 0b000000000000000000000000_0000_0000 = .ok .nop := by decide
theorem test_decode_conv : decode 0b000000000000000000000000_0001_0000 = .ok .conv := by decide
theorem test_decode_convs : decode 0b000000000000000000000000_0001_0001 = .ok .convs := by decide
theorem test_decode_conv4 : decode 0b000000000000000000000000_0001_0010 = .ok .conv4 := by decide
theorem test_decode_conv4s : decode 0b000000000000000000000000_0001_0011 = .ok .conv4s := by decide
theorem test_decode_crop : decode 0b000000000000000000000000_0010_0000 = .ok .crop := by decide
theorem test_decode_scale : decode 0b000000000000000000000000_0010_0001 = .ok .scale := by decide
theorem test_decode_decim2 : decode 0b000000000000000000000000_0010_0010 = .ok .decim2 := by decide
theorem test_decode_run : decode 0b000000000000000000000000_0010_0011 = .ok .run := by decide
/-- V-E1 to V-E7: one word of every illegal kind. -/
theorem test_decode_illegal :
    decode 0x00000001 = .error .funcUnknown ∧ decode 0x00000014 = .error .funcUnknown ∧
    decode 0x00000024 = .error .funcUnknown ∧ decode 0x00000030 = .error .classUnknown ∧
    decode 0x00000110 = .error .zeroField ∧ decode 0x80000020 = .error .zeroField ∧
    decode 0xFFFFFFFF = .error .zeroField := by decide
theorem test_table_word : decodeTableWord 32 0x23 = some .run ∧ decodeTableWord 32 0x24 = none := by decide

/-! ## The converter -/

/-- V-C8, V-C20, V-C22, V-C24. -/
theorem test_convert_vectors :
    convert 0xFF07FB07 = 0x07C0 ∧ convert 0x12345678 = 0x32AF ∧ convert 0xDEADBEEF = 0xADFD ∧
    convert 0x5A5A5A5A = 0x5ACB := by decide
/-- V-C9 to V-C14: the lowest bit kept and the highest bit dropped of each channel. -/
theorem test_convert_channel_edges :
    convert 0x00080000 = 0x0800 ∧ convert 0x00000400 = 0x0020 ∧ convert 0x00000008 = 0x0001 ∧
    convert 0x00040000 = 0 ∧ convert 0x00000200 = 0 ∧ convert 0x00000004 = 0 := by decide
/-- V-C20, V-C22. -/
theorem test_swapped_vectors : convertSwapped 0x12345678 = 0xAF32 ∧ convertSwapped 0xDEADBEEF = 0xFDAD := by decide

/-- V-K1. -/
theorem test_conv : (after (exec .conv lanesK) lanesK).pixOut = ⟨0xF800, 0, 0, 0⟩ := by decide
/-- V-K2. -/
theorem test_convs : (after (exec .convs lanesK) lanesK).pixOut = ⟨0x00F8, 0, 0, 0⟩ := by decide
/-- V-K3. -/
theorem test_conv4 : (after (exec .conv4 lanesK) lanesK).pixOut = ⟨0xF800, 0x07E0, 0x001F, 0x32AF⟩ := by decide
/-- V-K4. -/
theorem test_conv4s : (after (exec .conv4s lanesK) lanesK).pixOut = ⟨0x00F8, 0xE007, 0x1F00, 0xAF32⟩ := by decide
/-- V-K5: lane 0 replaced, lanes 1 to 3 keep CONV4's results. -/
theorem test_convs_keeps_lanes :
    (played lanesK [.portWrite .word 0x00 0x12, .portWrite .word 0x30 0xFFFFFFFF,
      .portWrite .word 0x00 0x11]).pixOut = ⟨0xFFFF, 0x07E0, 0x001F, 0x32AF⟩ := by decide
/-- V-E10: rejected while BUSY = 1. -/
theorem test_conv_busy :
    (after (exec .conv { lanesK with busy := true }) lanesK).pixOut = ⟨0, 0, 0, 0⟩ ∧
    (after (exec .conv { lanesK with busy := true }) lanesK).errBusy = true := by decide
/-- V-RG9. -/
theorem test_nop : after (exec .nop State.reset) lanesK = State.reset := by decide

/-! ## Scans -/

/-- V-M3: the latches are those of the last frame written before the command. -/
theorem test_crop_latches :
    let s := after (exec .crop { State.reset with srcBase := 0x8000, srcStride := 256 }) State.reset
    s.lBase = 0x8000 ∧ s.lStride = 256 ∧ s.lMode = .crop ∧ s.busy = true ∧ s.locked = true := by decide
theorem test_scale_mode : (after (exec .scale State.reset) State.reset).lMode = .scaledNearest := by decide
theorem test_decim2_mode : (after (exec .decim2 State.reset) State.reset).lMode = .integerDecimate2x := by decide
/-- P4: VariantB runs IntegerDecimate2x whatever the scaled flag says. -/
theorem test_run_variantB :
    (after (exec .run { State.reset with variant := .variantB, scaled := true }) State.reset).lMode =
      .integerDecimate2x := by decide
/-- X6: VariantA honours the flag. -/
theorem test_run_variantA :
    (after (exec .run { State.reset with scaled := true }) State.reset).lMode = .scaledNearest := by decide

/-- V-CR1, V-CR10, V-CR14, V-SC9, V-SC10, V-SC16, V-DE7, V-DE11: index and address of a position. -/
theorem test_scan_positions :
    dbIndex .crop .variantA 183 95 = 17663 ∧ dbIndex .crop .variantB 0 1 = 160 ∧
    scanAddress (scanning .crop .variantA) 0 0 = 0x3E1C ∧
    scanAddress (scanning .crop .variantA) 183 95 = 0x97E3 ∧
    scanAddress (scanning .crop .variantB) 159 79 = 0x9057 ∧
    scanAddress (scanning .scaledNearest .variantA) 92 48 = 0x6B78 ∧
    scanAddress (scanning .scaledNearest .variantB) 159 79 = 0xB50E ∧
    dbIndex .integerDecimate2x .variantB 119 79 = 12779 ∧
    dbIndex .integerDecimate2x .variantA 0 79 = 14568 := by decide
/-- V-AD1, V-AD3, V-AD5, V-AD6: wrap-around of the address arithmetic. -/
theorem test_address_wraps :
    sourceAddress 0xFFFFFF00 240 28 32 = 0x00001D1C ∧ sourceAddress 0x0000B510 0xFFFFFF10 28 32 = 0x0000972C ∧
    sourceAddress 0 0x02000000 0 158 = 0x3C000000 ∧ sourceAddress 0x10 0x80000001 0 5 = 0x80000015 := by decide
/-- V-CR1: the first pixel step of CROP writes entry 0. -/
theorem test_first_crop_step :
    let s := { scanning .crop .variantA with src := [(0x3E1C, 0xFF1CDF3C)] }
    let t := after (pixelStep s) s
    dbRead 0 t = 0x1EE7 ∧ dbByte 0 t = 0xE7 ∧ t.cx = 1 ∧ t.cy = 0 ∧ t.busy = true := by decide
/-- V-DE7: the last pixel step of DECIM2 on VariantB stores the swapped value and ends the scan. -/
theorem test_last_decim2_step :
    let s := { scanningAt .integerDecimate2x .variantB 119 79 with src := [(0xB50E, 0xFFEE618C)] }
    let t := after (pixelStep s) s
    dbRead 12779 t = 0x11EB ∧ t.cx = 0 ∧ t.cy = 80 ∧ t.busy = false ∧ t.locked = true := by decide

/-! ## Ports, errors, reset -/

/-- V-RG5, V-RG6, V-RG10, V-K8: written, then read. -/
theorem test_register_reads :
    (played lanesK [.portWrite .word 0x08 0xFFFFFFFF, .portRead .word 0x08, .portRead .word 0x10,
      .portRead .word 0x0C, .portWrite .word 0x00 0x12, .portRead .word 0x4C]).replies =
    [.register 0x000032AF, .register 2, .register 0xA0, .register 3] := by decide
/-- P7's STATUS values, without the scan's end. -/
theorem test_status_values :
    (played State.reset [.portWrite .word 0x00 0x42, .portRead .word 0x04, .portWrite .word 0x00 0x23,
      .portWrite .word 0x00 0x20, .portWrite .word 0x08 0, .portRead .word 0x04,
      .portWrite .word 0x04 0x300, .portRead .word 0x04]).replies =
    [.register 0x403, .register 0x703, .register 0x100] := by decide
/-- `wait` on a stuck scan reads STATUS again and again; the platform's action waiting behind it goes on. -/
theorem test_wait_stuck :
    let s := { scanning .crop .variantA with unbacked := [⟨0, 0xFFFFFFFF⟩] }
    (pollStatus { s with inputs := [.dbRead 0] }).inputs = [.waitIdle, .dbRead 0] ∧
    (pollStatus { s with inputs := [.setBacking []] }).inputs = [.setBacking [], .waitIdle] := by decide
/-- V-Z4: reset during a scan. -/
theorem test_reset_during_scan :
    after (perform .reset (scanningAt .crop .variantA 5 7)) lanesK = State.reset := by decide

/-! ## Witnesses: the hypotheses of the statements can be met -/

/-- The reset state just after a scan command's acceptance meets the invariant. -/
theorem scanning_inv (m : RenderMode) (v : PanelVariant) : (scanning m v).Inv := by
  cases m <;> cases v <;> constructor <;> decide

theorem scanning_admits (m : RenderMode) (v : PanelVariant) : (scanning m v).AdmitsScan := fun _ _ _ _ => rfl

/-- The last position of DECIM2 on VariantB, all source pixels 0. -/
def lastDecim : State := scanningAt .integerDecimate2x .variantB 119 79

theorem lastDecim_inv : lastDecim.Inv := by constructor <;> decide

/-- Source and DisplayBuffer being all zero, every position is written. -/
theorem lastDecim_written : lastDecim.WrittenSoFar := by
  intro x y _ _
  show dbRead _ lastDecim = swap16 (convert 0)
  rw [dbRead_of_db_nil _ rfl]
  decide

theorem witness_IllegalWordsRaiseErrIllOnly :
    State.reset.busy = false ∧ (∃ e, decode 0x00000001 = .error e) ∧ (∃ e, decode 0x0000000F = .error e) ∧
    (∃ e, decode 0x00000014 = .error e) ∧ (∃ e, decode 0x0000001F = .error e) ∧
    (∃ e, decode 0x00000024 = .error e) ∧ (∃ e, decode 0x000000FF = .error e) ∧
    ∃ e, decode 0x00000100 = .error e :=
  ⟨rfl, ⟨_, rfl⟩, ⟨_, rfl⟩, ⟨_, rfl⟩, ⟨_, rfl⟩, ⟨_, rfl⟩, ⟨_, rfl⟩, _, rfl⟩

theorem witness_DecodeAndEncodeAgree :
    Instr.wf .decim2 = true ∧ decode 0x00000022 = .ok .decim2 ∧ encode .nop = encode .nop := by decide

theorem witness_StepRunsTheDecodedCommand :
    (decode 0x00000000 = .ok .nop ∧ Instr.wf .nop = true) ∧
    (decodeTableWord 32 0x23 = some .run ∧ Instr.wf .run = true) := by decide

theorem witness_CmdWriteChecksBusyThenLegality :
    (scanning .crop .variantA).busy = true ∧ State.reset.busy = false ∧
    (∀ i, (0x00000024 : Word) ≠ encode i) ∧ (0x00000023 : Word) = encode .run ∧ (0x00000000 : Word) = encode .nop :=
  ⟨rfl, rfl, fun i => by cases i <;> decide, rfl, rfl⟩

theorem witness_LanesAgreeWithTheScalarPath :
    lanesK.busy = false ∧
    Lanes.get ({ lanesK with pixIn := lanesK.pixIn.set 0 (lanesK.pixIn.get 3) } : State).pixIn 0 =
      lanesK.pixIn.get 3 := by decide

theorem witness_ConvsWritesLaneZeroSwapped :
    (0xFFFF : Half).extractLsb' 8 8 = (0xFFFF : Half).extractLsb' 0 8 := by decide

theorem witness_ScanCommandsAreAccepted :
    State.reset.busy = false ∧
    ∀ i : Instr, (i = .crop ∨ i = .scale ∨ i = .decim2 ∨ i = .run) → ∃ m : RenderMode,
      i = .crop ∧ m = .crop ∨ i = .scale ∧ m = .scaledNearest ∨ i = .decim2 ∧ m = .integerDecimate2x ∨
      i = .run ∧ m = select State.reset.variant State.reset.scaled := by
  refine ⟨rfl, ?_⟩
  rintro i (rfl | rfl | rfl | rfl) <;> simp

/-- The corner of every region, for the statements over region positions. -/
theorem witness_region_corner (m : RenderMode) (v : PanelVariant) :
    regionWidth m v - 1 < regionWidth m v ∧ regionHeight m v - 1 < regionHeight m v ∧
    0 < regionWidth m v ∧ 0 < regionHeight m v := by
  cases m <;> cases v <;> decide

theorem witness_CropIndexArithmetic : 183 < 184 ∧ 95 < 96 ∧ 159 < 160 ∧ 79 < 80 := by decide
theorem witness_ScaledNearestIndexArithmetic : 182 < 183 ∧ 94 < 95 := by decide
theorem witness_DecimateIndexArithmetic (v : PanelVariant) :
    panelWidth v - 1 < panelWidth v ∧ panelHeight v - 1 < panelHeight v ∧ 0 < panelWidth v ∧ 0 < panelHeight v := by
  cases v <;> decide
theorem witness_ScanRanges (m : RenderMode) (v : PanelVariant) :
    regionWidth m v - 1 < regionWidth m v ∧ regionHeight m v - 1 < regionHeight m v := by
  cases m <;> cases v <;> decide
theorem witness_NoEntryIsWrittenTwice :
    183 < regionWidth .crop .variantA ∧ 95 < regionHeight .crop .variantA ∧
    dbIndex .crop .variantA 183 95 = dbIndex .crop .variantA 183 95 := by decide
theorem witness_SourceAddressWraps :
    119 < regionWidth lastDecim.lMode lastDecim.variant ∧ 79 < regionHeight lastDecim.lMode lastDecim.variant := by
  decide

/-- Both clauses: an admitted address at the last position, and one that is not backed. -/
theorem witness_PixelStepWritesOneEntry :
    lastDecim.busy = true ∧ lastDecim.cx.toNat < regionWidth lastDecim.lMode lastDecim.variant ∧
    lastDecim.cy.toNat < regionHeight lastDecim.lMode lastDecim.variant ∧
    srcAdmit (scanAddress lastDecim 119 79) lastDecim = true ∧
    srcAdmit (scanAddress lastDecim 119 79) { lastDecim with unbacked := [⟨0xB50E, 0xB50E⟩] } = false := by decide

theorem witness_UnbackedPixelStepIsStuck :
    let s := { lastDecim with unbacked := [⟨0, 0xFFFFFFFF⟩] }
    s.busy = true ∧ srcAdmit (scanAddress s s.cx.toNat s.cy.toNat) s = false := by decide

theorem witness_IdleEngineTakesNoStep :
    State.reset.busy = false ∧ State.reset.inputs = [] ∧ (scanning .crop .variantA).inputs = [] := by decide

theorem witness_ScanRunsToCompletion :
    let s := scanning .integerDecimate2x .variantB
    s.busy = true ∧ s.cx = 0 ∧ s.cy = 0 ∧ s.inputs = [] ∧ s.AdmitsScan ∧
    9599 < regionWidth s.lMode s.variant * regionHeight s.lMode s.variant :=
  ⟨rfl, rfl, rfl, rfl, scanning_admits _ _, by decide⟩

theorem witness_ScanCommandFillsTheDisplayBuffer :
    State.reset.busy = false ∧ State.reset.inputs = [] ∧
    (acceptScan (select State.reset.variant State.reset.scaled) State.reset).AdmitsScan :=
  ⟨rfl, rfl, fun _ _ _ _ => rfl⟩

/-- The run of one pixel step that ends the scan. -/
theorem witness_ScanResultUnderAnyInterleaving :
    lastDecim.Inv ∧ lastDecim.busy = true ∧ lastDecim.WrittenSoFar ∧
    (∀ k, k < 1 → ∃ u : State, Host.Core.run core k lastDecim = .next u ∧ u.busy = true ∧
      u.inputs.head? ≠ some .reset ∧
      ∀ x y, x < regionWidth lastDecim.lMode lastDecim.variant →
        y < regionHeight lastDecim.lMode lastDecim.variant →
        srcMem (scanAddress lastDecim x y) u = srcMem (scanAddress lastDecim x y) lastDecim) ∧
    ∃ t : State, Host.Core.run core 1 lastDecim = .next t ∧ t.busy = false := by
  refine ⟨lastDecim_inv, rfl, lastDecim_written, fun k hk => ?_, _, run_one rfl, by decide⟩
  obtain rfl : k = 0 := by omega
  exact ⟨lastDecim, rfl, rfl, by decide, fun _ _ _ _ => rfl⟩

/-- Both endings: a step after which the scan goes on, and one that ends it. -/
theorem witness_WrittenEntriesStayWritten :
    (lastDecim.Inv ∧ lastDecim.busy = true ∧ lastDecim.WrittenSoFar ∧
      (∀ a p, lastDecim.inputs.head? ≠ some (.produce a p)) ∧ lastDecim.inputs.head? ≠ some .reset ∧
      ∃ t : State, step lastDecim = .next t ∧ t.busy = false) ∧
    let s := (scanning .crop .variantA).before (.portWrite .word 0x00 0x20)
    s.busy = true ∧ s.WrittenSoFar ∧ s.inputs.head? ≠ some .reset ∧ ∃ t : State, step s = .next t ∧ t.busy = true := by
  refine ⟨⟨lastDecim_inv, rfl, lastDecim_written, fun _ _ => (by simp [lastDecim, scanningAt, scanning, State.reset]), by decide, _, rfl, by decide⟩,
    rfl, ?_, by decide, _, rfl, rfl⟩
  intro x y _ h
  exact absurd h (by rintro (h | ⟨_, h⟩) <;> exact absurd h (Nat.not_lt_zero _))

theorem witness_reserved_offsets :
    (0x1C % 4 = 0 ∧ 0x28 % 4 = 0 ∧ 0x2C % 4 = 0 ∧ 0x50 % 4 = 0 ∧ 0xFC % 4 = 0) ∧ 0x50 ≤ 0xFC := by decide

theorem witness_DbPortIsLittleEndian : 17663 < 17664 ∧ 35327 < 35328 ∧ 17664 ≤ 17664 ∧ 35328 ≤ 35328 := by decide

theorem witness_FramePayloadIsTheByteView : 0 < (framePayload State.reset).length := by
  simp [framePayload, bufSize, State.reset, panelWidth, panelHeight, Config.panelWidthA, Config.panelHeightA]

theorem witness_RefusedExactlyWhenIllFormed :
    ∃ r, step (State.reset.before (.portRead .word 0x02)) = .refused r := ⟨_, rfl⟩

theorem witness_FaultsOnlyOnUnbackedSource : (scanning .crop .variantA).Inv := scanning_inv _ _

theorem witness_ScriptLinesExpand : Line.wf (.conv1 0x0000FC00) = true ∧ Line.wf (.db 17663) = true := by decide

/-- The three rounds of `wait`: BUSY = 0; another agent's action waiting; a host's action, or none, waiting. -/
theorem witness_WaitPollsStatus :
    State.reset.busy = false ∧ (scanning .crop .variantA).busy = true ∧
    ({ scanning .crop .variantA with inputs := [.reset] } : State).inputs = [.reset] ∧
    (scanning .crop .variantA).inputs.head? = none := ⟨rfl, rfl, rfl, rfl⟩

theorem witness_AnyCommandWhileBusyIsRejected : (scanning .scaledNearest .variantB).busy = true := rfl

theorem witness_CfgWriteWhileLockedIsRejected : (scanning .crop .variantA).locked = true := rfl

theorem witness_OneStepRaisesAtMostOneError :
    let s := State.reset.before (.portWrite .word 0x00 0x42)
    errorFlag .errIll s = false ∧ ∃ t : State, step s = .next t ∧ errorFlag .errIll t = true :=
  ⟨rfl, _, rfl, by decide⟩

theorem witness_ResetValues : 17663 < 17664 := by decide

theorem witness_EveryStepKeepsTheInvariant :
    (scanning .crop .variantA).Inv ∧ ∃ t : State, step (scanning .crop .variantA) = .next t ∧ t.cx = 1 :=
  ⟨scanning_inv _ _, _, rfl, by decide⟩

/-- RUN on VariantB keeps the borders, and its hypothesis on the word is met at that word. -/
theorem witness_BordersStayZeroUnderDecimation :
    let s := State.before { State.reset with variant := .variantB } (.portWrite .word 0x00 0x23)
    s.Inv ∧ s.BordersZero ∧
    (∀ w, s.inputs.head? = some (.portWrite .word 0x00 w) →
      w ≠ 0x00000020 ∧ w ≠ 0x00000021 ∧
      (w = 0x00000023 → select s.variant s.scaled = .integerDecimate2x)) ∧
    ∃ t : State, step s = .next t ∧ t.busy = true := by
  refine ⟨by constructor <;> decide, ⟨fun h => absurd h (by decide), fun i _ => dbRead_of_db_nil i rfl⟩, ?_,
    _, rfl, rfl⟩
  intro w hw
  cases hw
  decide

theorem witness_EntriesBeyondTheFrameAreZero :
    lastDecim.Inv ∧ lastDecim.variant = .variantB ∧ 12800 ≤ 12800 ∧ 17663 ≤ 17663 :=
  ⟨lastDecim_inv, rfl, by decide, by decide⟩

theorem witness_LockedCfgNeverChanges :
    let s := (scanning .crop .variantA).before (.portWrite .word 0x08 1)
    s.locked = true ∧ s.inputs.head? ≠ some .reset ∧ ∃ t : State, step s = .next t :=
  ⟨rfl, by decide, _, rfl⟩

theorem witness_OnlyPixelStepsChangeTheDisplayBuffer :
    let s := { scanning .crop .variantA with src := [(0x3E1C, 0xFF1CDF3C)] }
    ∃ t : State, step s = .next t ∧ t.db ≠ s.db := ⟨_, rfl, by decide⟩

theorem witness_OnlyConverterCommandsChangePixOut :
    let s := lanesK.before (.portWrite .word 0x00 0x13)
    ∃ t : State, step s = .next t ∧ t.pixOut ≠ s.pixOut := ⟨_, rfl, by decide⟩

theorem witness_OnlyAcceptanceLoadsTheLatches :
    let s := State.before { State.reset with srcBase := 0x8000 } (.portWrite .word 0x00 0x22)
    ∃ t : State, step s = .next t ∧ t.lBase ≠ s.lBase := ⟨_, rfl, by decide⟩

theorem witness_OnlyTheProducerChangesTheSource :
    let s := State.reset.before (.produce 0x3E1C 0xFF1CDF3C)
    ∃ t : State, step s = .next t ∧ t.src ≠ s.src := ⟨_, rfl, by decide⟩

theorem witness_WaitOnAStuckScanKeepsReading :
    let s := { scanning .crop .variantA with unbacked := [⟨0, 0xFFFFFFFF⟩], inputs := [.dbRead 0] }
    s.busy = true ∧ srcAdmit (scanAddress s s.cx.toNat s.cy.toNat) s = false ∧
    s.inputs.head? = some (.dbRead 0) ∧ actsDuringWait (.dbRead 0) = false := by decide

theorem witness_WaitEndsWithTheScan :
    let s := { scanning .integerDecimate2x .variantA with inputs := [.dbRead 32] }
    s.busy = true ∧ s.cx = 0 ∧ s.cy = 0 ∧ s.AdmitsScan ∧
    s.inputs.head? = some (.dbRead 32) ∧ actsDuringWait (.dbRead 32) = false :=
  ⟨rfl, rfl, rfl, fun _ _ _ _ => rfl, rfl, rfl⟩

end Sys2Proof.Tests
end

section
/-! PROOFS for the statements of spec/10_state.md. First what a step performs and what each kind of action
leaves of the scan's part of the state; then each statement from these lemmas. -/

namespace Sys2Proof.Machine

/-! ## The action that a step performs -/

section NextAction
variable {s t : State} {e : Input}

/-- The action the next step performs: the first one waiting, else the engine's turn (log 1). -/
def State.nextAction (s : State) : Input := s.inputs.head?.getD .engine

/-- A step performs the next action on the state without it. -/
theorem step_eq_perform (s : State) : step s = perform s.nextAction { s with inputs := s.inputs.tail } := by
  cases hi : s.inputs with
  | nil =>
    have hs : { s with inputs := [] } = s := by rw [← hi]
    rw [step_nil hi, State.nextAction, hi, List.tail_nil, hs]
    rfl
  | cons e rest =>
    rw [eq_before hi]
    rfl

/-- What a step that answers has done. -/
theorem step_effect (h : step s = .next t) : Effect { s with inputs := s.inputs.tail } s.nextAction t :=
  perform_effect (step_eq_perform s ▸ h)

/-- The engine has the turn only when its turn is first in the list or the list is empty. -/
theorem nextAction_engine (h : s.nextAction = .engine) : s.inputs = [] ∨ s.inputs.head? = some .engine := by
  cases hi : s.inputs with
  | nil => exact .inl rfl
  | cons e rest => exact .inr (by simpa [State.nextAction, hi] using h)

/-- Every action but the engine's is performed only when it is first in the list. -/
theorem head?_of_nextAction (h : s.nextAction = e) (he : e ≠ .engine) : s.inputs.head? = some e := by
  cases hi : s.inputs with
  | nil => exact absurd (by simpa [State.nextAction, hi] using h.symm) he
  | cons a rest => simpa [State.nextAction, hi] using h

end NextAction

/-! ## What an action leaves of the scan's part of the state -/

/-- `t` agrees with `s` on the fields that the scan rests on: BUSY, LOCKED, CFG, the latches, the cursor, the
DisplayBuffer and source memory. -/
structure State.SameScan (s t : State) : Prop where
  busy : t.busy = s.busy
  locked : t.locked = s.locked
  variant : t.variant = s.variant
  scaled : t.scaled = s.scaled
  lBase : t.lBase = s.lBase
  lStride : t.lStride = s.lStride
  lMode : t.lMode = s.lMode
  cx : t.cx = s.cx
  cy : t.cy = s.cy
  db : t.db = s.db
  src : t.src = s.src

/-- The five ways in which an action can change the scan's part of the state, and the rest, which keep it. -/
inductive ScanEffect (s : State) : Input → State → Prop where
  | kept {e : Input} {t : State} : s.SameScan t → ScanEffect s e t
  | configured {e : Input} (w : Word) : s.locked = false → ScanEffect s e (setCfg w s)
  | accepted {e : Input} (m : RenderMode) : s.busy = false → ScanEffect s e (acceptScan m s)
  | stepped (v : Half) : s.busy = true →
      ScanEffect s .engine (advanceCursor (dbWrite (dbIndex s.lMode s.variant s.cx.toNat s.cy.toNat) v s))
  | produced {e : Input} (a p : Word) : ScanEffect s e (producePixel a p s)
  | wasReset : ScanEffect s .reset (applyReset s)

/-- Every action's effect on the scan's part of the state is one of these. -/
theorem Effect.scanEffect {s t : State} {e : Input} (h : Effect s e t) : ScanEffect s e t := by
  cases h with
  | configured w hl => exact .configured w hl
  | accepted w m hb hm => exact .accepted m hb
  | stepped _ hb hp =>
    obtain ⟨_, _, rfl⟩ := (pixelStep_next s t).1 hp
    exact .stepped _ hb
  | produced a p => exact .produced a p
  | wasReset => exact .wasReset
  | ignored | answered | polled | rejected | acknowledged | setBase | setStride | setLane | converted | backed =>
    exact .kept (by constructor <;> rfl)

/-- The effect of a step on the scan's part of the state. -/
theorem step_scanEffect {s t : State} (h : step s = .next t) :
    ScanEffect { s with inputs := s.inputs.tail } s.nextAction t := (step_effect h).scanEffect

/-! ## The invariant -/

section Invariant
variable {s t : State} {e : Input}

/-- Inside the region the DisplayBuffer index is inside the frame: linear once strategy and variant are fixed. -/
theorem dbIndex_lt_bufSize (m : RenderMode) (v : PanelVariant) {x y : Nat} (hx : x < regionWidth m v)
    (hy : y < regionHeight m v) : dbIndex m v x y < bufSize v := by
  cases m <;> cases v <;>
    simp only [regionWidth, regionHeight, dbIndex, bufSize, decimOffsetX, panelWidth, panelHeight,
      Config.panelWidthA, Config.panelHeightA, Config.panelWidthB, Config.panelHeightB, Config.decW,
      Config.decH] at * <;>
    omega

/-- An idle state with an all-zero DisplayBuffer meets the invariant where its source memory does. -/
theorem inv_of_idle_of_db_nil (hb : s.busy = false) (hdb : s.db = []) (hwf : Memory.wf s.src)
    (hsp : ∀ c ∈ s.src, c.1 < 2 ^ 32) : s.Inv where
  busy_locked := by simp [hb]
  cursor_column := by simp [hb]
  cursor_row := by simp [hb]
  db_wf := hdb ▸ Memory.wf_nil
  db_frame := by simp [hdb]
  db_unlocked := fun _ => hdb
  src_wf := hwf
  src_space := hsp

/-- The reset state meets the invariant. -/
theorem reset_inv : State.reset.Inv := inv_of_idle_of_db_nil rfl rfl Memory.wf_nil (by simp [State.reset])

/-- The invariant speaks of the scan's part of the state only. -/
theorem State.SameScan.inv (h : s.SameScan t) (hs : s.Inv) : t.Inv where
  busy_locked := by rw [h.busy, h.locked]; exact hs.busy_locked
  cursor_column := by rw [h.busy, h.cx, h.lMode, h.variant]; exact hs.cursor_column
  cursor_row := by rw [h.busy, h.cy, h.lMode, h.variant]; exact hs.cursor_row
  db_wf := h.db ▸ hs.db_wf
  db_frame := by rw [h.db, h.variant]; exact hs.db_frame
  db_unlocked := by rw [h.locked, h.db]; exact hs.db_unlocked
  src_wf := h.src ▸ hs.src_wf
  src_space := h.src ▸ hs.src_space

/-- A CFG write that is taken finds an idle block whose DisplayBuffer is as reset left it. -/
theorem setCfg_inv (w : Word) (hl : s.locked = false) (hs : s.Inv) : (setCfg w s).Inv := by
  have hb : s.busy = false := by
    cases hb : s.busy with
    | false => rfl
    | true => exact absurd (hs.busy_locked hb) (by simp [hl])
  exact inv_of_idle_of_db_nil hb (hs.db_unlocked hl) hs.src_wf hs.src_space

/-- Acceptance locks the configuration and puts the cursor at the region's first position. -/
theorem acceptScan_inv (m : RenderMode) (hs : s.Inv) : (acceptScan m s).Inv where
  busy_locked _ := rfl
  cursor_column _ := regionWidth_pos m s.variant
  cursor_row _ := regionHeight_pos m s.variant
  db_wf := hs.db_wf
  db_frame := hs.db_frame
  db_unlocked h := absurd h (by simp)
  src_wf := hs.src_wf
  src_space := hs.src_space

/-- Writing an entry of the frame of a locked configuration keeps the invariant. -/
theorem dbWrite_inv {i : Nat} (v : Half) (hi : i < bufSize s.variant) (hl : s.locked = true) (hs : s.Inv) :
    (dbWrite i v s).Inv where
  busy_locked := hs.busy_locked
  cursor_column := hs.cursor_column
  cursor_row := hs.cursor_row
  db_wf := dbWrite_wf i v s hs.db_wf
  db_frame c hc := by
    rw [dbWrite_variant]
    rcases mem_dbWrite i v s hc with h | h | h
    · omega
    · omega
    · exact hs.db_frame c h
  db_unlocked h := absurd hl (by simp_all)
  src_wf := hs.src_wf
  src_space := hs.src_space

/-- Advancing the cursor of a running scan leaves it inside the region, or ends the scan. -/
theorem advanceCursor_inv (hb : s.busy = true) (hs : s.Inv) : (advanceCursor s).Inv where
  busy_locked _ := hs.busy_locked hb
  cursor_column _ := by
    have hx := hs.cursor_column hb
    rw [advanceCursor_lMode, advanceCursor_variant, advanceCursor_cx s hx]
    split <;> omega
  cursor_row h := by
    have hx := hs.cursor_column hb
    have hy := hs.cursor_row hb
    have hlast := mt (advanceCursor_done s hb hx hy).2 (by simp [h])
    rw [advanceCursor_lMode, advanceCursor_variant, advanceCursor_cy s hx hy]
    split <;> omega
  db_wf := hs.db_wf
  db_frame := hs.db_frame
  db_unlocked := hs.db_unlocked
  src_wf := hs.src_wf
  src_space := hs.src_space

/-- The producer's store keeps the invariant: its address is one of the 2^32. -/
theorem producePixel_inv (a p : Word) (hs : s.Inv) : (producePixel a p s).Inv where
  busy_locked := hs.busy_locked
  cursor_column := hs.cursor_column
  cursor_row := hs.cursor_row
  db_wf := hs.db_wf
  db_frame := hs.db_frame
  db_unlocked := hs.db_unlocked
  src_wf := producePixel_wf a p s hs.src_wf
  src_space c hc := by
    rcases Memory.mem_write _ _ _ hc with ⟨rfl, _⟩ | ⟨hc, _⟩
    · exact a.isLt
    · exact hs.src_space c hc

/-- Every action keeps the invariant. -/
theorem ScanEffect.inv (h : ScanEffect s e t) (hs : s.Inv) : t.Inv := by
  cases h with
  | kept h => exact h.inv hs
  | configured w hl => exact setCfg_inv w hl hs
  | accepted m _ => exact acceptScan_inv m hs
  | stepped v hb =>
    have hi := dbIndex_lt_bufSize _ _ (hs.cursor_column hb) (hs.cursor_row hb)
    exact advanceCursor_inv hb (dbWrite_inv v hi (hs.busy_locked hb) hs)
  | produced a p => exact producePixel_inv a p hs
  | wasReset => exact inv_of_idle_of_db_nil rfl rfl hs.src_wf hs.src_space

/-- The actions waiting are no part of the invariant. -/
theorem State.Inv.setInputs (l : List Input) (hs : s.Inv) : { s with inputs := l }.Inv :=
  State.SameScan.inv (by constructor <;> rfl) hs

end Invariant

/-- Settles O48: a step is one action on the state without it, and every kind of action keeps the invariant. -/
theorem everyStepKeepsTheInvariant : Obligations.EveryStepKeepsTheInvariant := by
  intro s t hs h
  exact (step_scanEffect h).inv (hs.setInputs _)

/-! ## What the engine reads -/

/-- Settles O31, outcome by outcome of the pixel step without the other values: each outcome is decided by the
latches, the cursor, the variant and the source alone. -/
theorem engineReadsTheLatchesOnly : Obligations.EngineReadsTheLatchesOnly := by
  intro s base stride lanes outs
  simp only [step_before, perform]
  rcases Bool.eq_false_or_eq_true s.busy with hb | hb
  · rw [engineTurn_busy s hb, engineTurn_busy _ (by exact hb)]
    cases hp : pixelStep s with
    | next t =>
      obtain ⟨ha, hd, rfl⟩ := (pixelStep_next s t).1 hp
      exact (pixelStep_next _ _).2 ⟨ha, hd, rfl⟩
    | fault f => exact (pixelStep_fault _ f).2 ((pixelStep_fault s f).1 hp)
    | refused r => exact absurd hp (pixelStep_not_refused s r)
  · rw [engineTurn_idle s hb, engineTurn_idle _ (by exact hb)]

/-! ## Who may change what -/

section Safety
variable {s t : State} {e : Input}

/-- Once LOCKED, every action but reset keeps LOCKED and CFG. -/
theorem ScanEffect.locked_cfg (h : ScanEffect s e t) (hl : s.locked = true) (he : e ≠ .reset) :
    t.locked = true ∧ t.variant = s.variant ∧ t.scaled = s.scaled := by
  cases h with
  | kept h => exact ⟨h.locked.trans hl, h.variant, h.scaled⟩
  | configured w hu => exact absurd hl (by simp [hu])
  | accepted m _ => exact ⟨rfl, rfl, rfl⟩
  | stepped v _ => exact ⟨hl, rfl, rfl⟩
  | produced a p => exact ⟨hl, rfl, rfl⟩
  | wasReset => exact absurd rfl he

/-- An action that changes the DisplayBuffer is a running engine's or reset. -/
theorem ScanEffect.of_db_ne (h : ScanEffect s e t) (hne : t.db ≠ s.db) :
    (s.busy = true ∧ e = .engine) ∨ e = .reset := by
  cases h with
  | kept h => exact absurd h.db hne
  | configured w _ => exact absurd rfl hne
  | accepted m _ => exact absurd rfl hne
  | stepped v hb => exact .inl ⟨hb, rfl⟩
  | produced a p => exact absurd rfl hne
  | wasReset => exact .inr rfl

/-- An action that changes a latch accepts a scan, loading them all together, or is reset. -/
theorem ScanEffect.of_latch_ne (h : ScanEffect s e t)
    (hne : t.lBase ≠ s.lBase ∨ t.lStride ≠ s.lStride ∨ t.lMode ≠ s.lMode) :
    (s.busy = false ∧ ∃ m, t = acceptScan m s) ∨ e = .reset := by
  cases h with
  | kept h => simp [h.lBase, h.lStride, h.lMode] at hne
  | configured w _ => simp at hne
  | accepted m hb => exact .inl ⟨hb, m, rfl⟩
  | stepped v _ => simp at hne
  | produced a p => simp at hne
  | wasReset => exact .inr rfl

/-- An action that changes PIX_OUT is the CMD write of a converter command while BUSY = 0, or reset. -/
theorem Effect.of_pixOut_ne (h : Effect s e t) (hne : t.pixOut ≠ s.pixOut) :
    (s.busy = false ∧ ∃ w i, e = .portWrite .word 0x00 w ∧ decode w = .ok i ∧
      (i = .conv ∨ i = .convs ∨ i = .conv4 ∨ i = .conv4s)) ∨ e = .reset := by
  cases h with
  | converted w l hb hi =>
    obtain ⟨i, hd, hi⟩ := hi
    exact .inl ⟨hb, w, i, rfl, hd, hi⟩
  | wasReset => exact .inr rfl
  | stepped _ _ hp =>
    obtain ⟨_, _, rfl⟩ := (pixelStep_next s t).1 hp
    exact absurd rfl hne
  | ignored | answered | polled | rejected | acknowledged | configured | setBase | setStride | setLane | accepted
  | produced | backed => exact absurd rfl hne

end Safety

/-- Settles O51: of the ways to change the scan's part of the state, only a CFG write taken while unlocked and reset
set CFG or LOCKED to something else. -/
theorem lockedCfgNeverChanges : Obligations.LockedCfgNeverChanges := by
  intro s t hl hr h
  exact (step_scanEffect h).locked_cfg hl fun he => hr (head?_of_nextAction he (by decide))

/-- Settles O52: only the engine's pixel step and reset have an effect on the DisplayBuffer. -/
theorem onlyPixelStepsChangeTheDisplayBuffer : Obligations.OnlyPixelStepsChangeTheDisplayBuffer := by
  intro s t h hne
  rcases (step_scanEffect h).of_db_ne hne with ⟨hb, he⟩ | he
  · exact .inl ⟨hb, nextAction_engine he⟩
  · exact .inr (head?_of_nextAction he (by decide))

/-- Settles O53: only a conversion and reset have an effect on PIX_OUT. -/
theorem onlyConverterCommandsChangePixOut : Obligations.OnlyConverterCommandsChangePixOut := by
  intro s t h hne
  rcases (step_effect h).of_pixOut_ne hne with ⟨hb, w, i, he, hd, hi⟩ | he
  · exact .inl ⟨hb, w, i, head?_of_nextAction he (by simp), hd, hi⟩
  · exact .inr (head?_of_nextAction he (by decide))

/-- Settles O54: only acceptance and reset have an effect on the latches, and acceptance loads them all. -/
theorem onlyAcceptanceLoadsTheLatches : Obligations.OnlyAcceptanceLoadsTheLatches := by
  intro s t h hne
  rcases (step_scanEffect h).of_latch_ne hne with ⟨hb, m, rfl⟩ | he
  · exact .inl ⟨hb, rfl, rfl, rfl, rfl, rfl⟩
  · exact .inr (head?_of_nextAction he (by decide))

/-! ## Registers by name: accesses at a register's own offset, and the reset values -/

section Registers
variable (r : Reg) (w : Word) (s : State)

/-- A word access at a register's offset reaches the register (R21). -/
theorem portTarget_registerOffset : portTarget .word (registerOffset r) = some (.reg r) := by
  cases r with
  | pixIn i => fin_cases i <;> rfl
  | pixOut i => fin_cases i <;> rfl
  | cmd | status | cfg | rmode | panelW | panelH | bufSize | srcBase | srcStride => rfl

/-- A host write at a register's offset writes the register (R171). -/
theorem step_before_writeRegister :
    step (s.before (.portWrite .word (registerOffset r) w)) = writeRegister r w s := by
  simp only [step_before, perform, portWrite, portTarget_registerOffset, writeTarget]

/-- A host read at a register's offset hands back the register's value (R172). -/
theorem readsAs_registerOffset {v : Word} (hv : readRegister r s = v) : s.ReadsAs (registerOffset r) v := by
  simp only [State.ReadsAs, step_before, perform, portRead, portTarget_registerOffset, readTarget, answer, hv]

/-- Every lane of a filled lane register holds the value. -/
@[simp] theorem Lanes.get_fill {n : Nat} (v : BitVec n) (i : Fin 4) : (Lanes.fill v).get i = v := by
  fin_cases i <;> rfl

end Registers

/-- Settles O34: reads and writes by register name, then the two variants. -/
theorem geometryRegistersRead : Obligations.GeometryRegistersRead := by
  intro s
  refine ⟨readsAs_registerOffset .panelW s ?_, readsAs_registerOffset .panelH s ?_,
    readsAs_registerOffset .bufSize s ?_, rfl, ?_, rfl⟩
  · rw [readRegister]
    cases s.variant <;> rfl
  · rw [readRegister]
    cases s.variant <;> rfl
  · rw [readRegister]
    cases s.variant <;> rfl
  · rintro w offset (rfl | rfl | rfl)
    · exact step_before_writeRegister .panelW w s
    · exact step_before_writeRegister .panelH w s
    · exact step_before_writeRegister .bufSize w s

/-- Settles O45: the fields by evaluation, the lanes and the DisplayBuffer's entries for every index. -/
theorem resetValues : Obligations.ResetValues := by
  refine ⟨rfl, rfl, rfl, rfl, rfl, rfl, rfl, rfl, rfl, rfl, rfl, rfl, rfl, ?_, ?_, rfl, rfl, rfl, rfl, rfl, ?_⟩
  · exact Lanes.get_fill 0
  · exact Lanes.get_fill 0
  · exact fun i _ => dbRead_of_db_nil i rfl

/-- Settles O47: reset is idle, and nothing is listed in its DisplayBuffer. -/
theorem resetMeetsTheInvariant : Obligations.ResetMeetsTheInvariant :=
  ⟨reset_inv, fun h => absurd h (by decide), fun i _ => dbRead_of_db_nil i rfl⟩

end Sys2Proof.Machine
end

section
/-! PROOFS for the statements of spec/20_memory.md: source addresses and source memory, the two views of the
DisplayBuffer, and in which steps the machine stops. -/

namespace Sys2Proof.Machine

/-! ## Source addresses -/

/-- The source address as arithmetic of 32-bit words, in which R65's reductions modulo 2^32 are implicit. -/
theorem sourceAddress_eq (base stride : Word) (sx sy : Nat) :
    sourceAddress base stride sx sy = base + BitVec.ofNat 32 sy * stride + BitVec.ofNat 32 sx := by
  apply BitVec.eq_of_toNat_eq
  simp only [sourceAddress, BitVec.toNat_ofNat, BitVec.toNat_add, BitVec.toNat_mul, Nat.mod_mul_mod,
    Nat.mod_add_mod, Nat.add_mod_mod]
  omega

/-- Inside the region the source column is at most 238 (R144): linear once strategy and variant are fixed. -/
theorem sourceX_le (m : RenderMode) (v : PanelVariant) {x : Nat} (hx : x < regionWidth m v) :
    sourceX m v x ≤ 238 := by
  cases m <;> cases v <;>
    simp only [regionWidth, sourceX, cropOffsetX, panelWidth, Config.panelWidthA, Config.panelWidthB, Config.decW,
      Config.srcW] at * <;>
    omega

/-- Inside the region the source row is at most 158 (R144). -/
theorem sourceY_le (m : RenderMode) (v : PanelVariant) {y : Nat} (hy : y < regionHeight m v) :
    sourceY m v y ≤ 158 := by
  cases m <;> cases v <;>
    simp only [regionHeight, sourceY, cropOffsetY, panelHeight, Config.panelHeightA, Config.panelHeightB,
      Config.decH, Config.srcH] at * <;>
    omega

/-- Settles O23: the address is a sum of words, in which the product with a negated stride is the negated
product. -/
theorem sourceAddressWraps : Obligations.SourceAddressWraps := by
  refine ⟨fun s x y => ?_, fun s x y hx hy => ⟨sourceX_le _ _ hx, sourceY_le _ _ hy⟩, fun base k sx sy => ?_⟩
  · rw [scanAddress, sourceAddress, BitVec.toNat_ofNat]
  · rw [sourceAddress_eq, BitVec.mul_neg, BitVec.sub_eq_add_neg]

/-! ## Source memory -/

/-- An action that changes source memory is a producer's store. -/
theorem Effect.of_src_ne {s t : State} {e : Input} (h : Effect s e t) (hne : t.src ≠ s.src) :
    ∃ a p, e = .produce a p ∧ t = producePixel a p s := by
  cases h with
  | produced a p => exact ⟨a, p, rfl, rfl⟩
  | stepped _ _ hp =>
    obtain ⟨_, _, rfl⟩ := (pixelStep_next s t).1 hp
    exact absurd rfl hne
  | ignored | answered | polled | rejected | acknowledged | configured | setBase | setStride | setLane | converted
  | accepted | backed | wasReset => exact absurd rfl hne

/-- Settles O55: only the producer's store has an effect on source memory, and it stores one pixel. -/
theorem onlyTheProducerChangesTheSource : Obligations.OnlyTheProducerChangesTheSource := by
  intro s t h hne
  obtain ⟨a, p, he, rfl⟩ := (step_effect h).of_src_ne hne
  exact ⟨a, p, head?_of_nextAction he (by simp), fun b => srcMem_producePixel a b p _⟩

/-- Settles O25: of the ways in which a pixel step stops, the one at an address that is not admitted. -/
theorem unbackedPixelStepIsStuck : Obligations.UnbackedPixelStepIsStuck := by
  refine ⟨fun s a => rfl, fun s hb ha => ?_⟩
  calc step (s.before .engine) = engineTurn s := step_before s .engine
    _ = pixelStep s := engineTurn_busy s hb
    _ = .fault .sourceNotAdmitted := (pixelStep_fault s _).2 (.inl ⟨rfl, ha⟩)

/-! ## The two views of the DisplayBuffer -/

section Views
variable (i k : Nat) (s : State)

/-- The low byte of an entry has the lower byte index. -/
theorem dbRead_lowByte : (dbRead i s).extractLsb' 0 8 = dbByte (2 * i) s :=
  BitVec.extractLsb'_append_eq_right

/-- The high byte of an entry has the higher byte index. -/
theorem dbRead_highByte : (dbRead i s).extractLsb' 8 8 = dbByte (2 * i + 1) s :=
  BitVec.extractLsb'_append_eq_left

/-- Every byte of the byte view is a byte of the entry at half its index. -/
theorem dbByte_eq_byte_of_entry :
    dbByte k s =
      if k % 2 = 0 then (dbRead (k / 2) s).extractLsb' 0 8 else (dbRead (k / 2) s).extractLsb' 8 8 := by
  split
  · rw [dbRead_lowByte, show 2 * (k / 2) = k by omega]
  · rw [dbRead_highByte, show 2 * (k / 2) + 1 = k by omega]

/-- `DBRead` inside the DisplayBuffer hands back the entry. -/
theorem dbReadPort_inRange (h : i < 17664) : dbReadPort i s = .next (answer (.entry (dbRead i s)) s) := if_pos h

/-- `DBRead` beyond the DisplayBuffer is refused. -/
theorem dbReadPort_beyond (h : 17664 ≤ i) : dbReadPort i s = .refused .indexNotOnDbPort := if_neg h.not_gt

/-- `DBByte` inside the byte view hands back the byte. -/
theorem dbBytePort_inRange (h : k < 35328) : dbBytePort k s = .next (answer (.byte (dbByte k s)) s) := if_pos h

/-- `DBByte` beyond the byte view is refused. -/
theorem dbBytePort_beyond (h : 35328 ≤ k) : dbBytePort k s = .refused .indexNotOnDbPort := if_neg h.not_gt

/-- The payload has two bytes for each entry of the frame. -/
theorem framePayload_length : (framePayload s).length = 2 * bufSize s.variant := by
  rw [framePayload, List.length_map, List.length_range]

/-- The payload's bytes are those of the byte view, in order. -/
theorem framePayload_getElem (h : k < (framePayload s).length) : (framePayload s)[k] = dbByte k s := by
  simp only [framePayload, List.getElem_map, List.getElem_range]

end Views

/-- Settles O35: the two ports by their ranges, a byte read as the byte of its entry. -/
theorem dbPortIsLittleEndian : Obligations.DbPortIsLittleEndian := by
  intro s k
  refine ⟨dbReadPort_inRange k s, fun hk => ?_, dbReadPort_beyond k s, dbBytePort_beyond k s⟩
  rw [← dbByte_eq_byte_of_entry]
  exact dbBytePort_inRange k s hk

/-- Settles O36: the length is twice the frame's entries on each variant. -/
theorem framePayloadIsTheByteView : Obligations.FramePayloadIsTheByteView := by
  refine fun s => ⟨?_, fun k => framePayload_getElem k s⟩
  rw [framePayload_length]
  cases s.variant <;> rfl

/-! ## In which steps the machine stops -/

section Stops
variable (s : State)

/-- An outcome that hands on a next state: neither a fault nor a refusal. -/
def Answers (o : Host.Outcome State Fault Refusal) : Prop := ∃ t, o = .next t

variable {o : Host.Outcome State Fault Refusal}

theorem Answers.not_fault (h : Answers o) (f : Fault) : o ≠ .fault f := by
  obtain ⟨t, rfl⟩ := h
  simp

theorem Answers.not_refused (h : Answers o) (r : Refusal) : o ≠ .refused r := by
  obtain ⟨t, rfl⟩ := h
  simp

/-- No command stops, whatever the state. -/
theorem exec_answers (i : Instr) : Answers (exec i s) := by
  cases i with
  | nop | conv | convs | conv4 | conv4s | crop | scale | decim2 | run => exact ⟨_, rfl⟩

/-- No CMD write stops, whatever the word. -/
theorem issueCommand_answers (w : Word) : Answers (issueCommand w s) := by
  unfold issueCommand
  split
  · exact ⟨_, rfl⟩
  · split
    · exact ⟨_, rfl⟩
    · exact exec_answers s _

/-- No host write at an offset of the port stops. -/
theorem writeTarget_answers (g : Target) (w : Word) : Answers (writeTarget g w s) := by
  cases g with
  | reserved => exact ⟨_, rfl⟩
  | reg r =>
    cases r with
    | cmd => exact issueCommand_answers s w
    | status | cfg | rmode | panelW | panelH | bufSize | srcBase | srcStride | pixIn | pixOut => exact ⟨_, rfl⟩

/-- The register port reaches nothing exactly where the access is ill formed (R61). -/
theorem portTarget_eq_none (width : Width) (offset : Nat) :
    portTarget width offset = none ↔ portAccessWf width offset = false := by
  cases width with
  | byte => exact iff_of_true rfl rfl
  | half => exact iff_of_true rfl rfl
  | word => simp [portTarget, portAccessWf]

/-- The register port reaches something exactly where the access is well formed. -/
theorem portTarget_eq_some {width : Width} {offset : Nat} (h : portAccessWf width offset = true) :
    ∃ g, portTarget width offset = some g :=
  Option.ne_none_iff_exists'.1 fun hn => by simp [(portTarget_eq_none width offset).1 hn] at h

/-- An action that its port does not carry is refused (R61, R67). -/
theorem perform_of_not_wf {e : Input} (h : e.wf = false) : ∃ r, perform e s = .refused r := by
  cases e with
  | portWrite width offset w =>
    exact ⟨.accessNotOnPort, by simp only [perform, portWrite, (portTarget_eq_none width offset).2 h]⟩
  | portRead width offset =>
    exact ⟨.accessNotOnPort, by simp only [perform, portRead, (portTarget_eq_none width offset).2 h]⟩
  | dbRead i => exact ⟨_, if_neg (of_decide_eq_false h)⟩
  | dbByte k => exact ⟨_, if_neg (of_decide_eq_false h)⟩
  | waitIdle | engine | produce | setBacking | reset => cases h

/-- A well-formed action other than the engine's turn answers. -/
theorem perform_answers {e : Input} (h : e.wf = true) (he : e ≠ .engine) : Answers (perform e s) := by
  cases e with
  | portWrite width offset w =>
    obtain ⟨g, hg⟩ := portTarget_eq_some h
    simp only [perform, portWrite, hg]
    exact writeTarget_answers s g w
  | portRead width offset =>
    obtain ⟨g, hg⟩ := portTarget_eq_some h
    exact ⟨answer (.register (readTarget g s)) s, by simp only [perform, portRead, hg]⟩
  | dbRead i => exact ⟨_, if_pos (of_decide_eq_true h)⟩
  | dbByte k => exact ⟨_, if_pos (of_decide_eq_true h)⟩
  | engine => exact absurd rfl he
  | waitIdle | produce | setBacking | reset => exact ⟨_, rfl⟩

/-- The engine's turn is never refused. -/
theorem engineTurn_not_refused (r : Refusal) : engineTurn s ≠ .refused r := by
  unfold engineTurn
  split
  · exact pixelStep_not_refused s r
  · simp

/-- The engine's turn faults exactly when its pixel step does. -/
theorem engineTurn_fault (f : Fault) : engineTurn s = .fault f ↔ s.busy = true ∧ pixelStep s = .fault f := by
  cases hb : s.busy with
  | false => simp [engineTurn_idle s hb]
  | true => simp [engineTurn_busy s hb]

/-- An action is refused exactly when it is ill formed. -/
theorem perform_refused (e : Input) : (∃ r, perform e s = .refused r) ↔ e.wf = false := by
  refine ⟨fun ⟨r, hr⟩ => ?_, perform_of_not_wf s⟩
  by_contra hwf
  rw [Bool.not_eq_false] at hwf
  by_cases he : e = .engine
  · subst he
    exact engineTurn_not_refused s r hr
  · exact (perform_answers s hwf he).not_refused r hr

/-- An action faults exactly when it is the engine's turn and that faults. -/
theorem perform_fault (e : Input) (f : Fault) :
    perform e s = .fault f ↔ e = .engine ∧ engineTurn s = .fault f := by
  by_cases he : e = .engine
  · subst he
    exact (and_iff_right rfl).symm
  · refine iff_of_false (fun hf => ?_) fun h => he h.1
    cases hwf : e.wf with
    | true => exact (perform_answers s hwf he).not_fault f hf
    | false =>
      obtain ⟨r, hr⟩ := perform_of_not_wf s hwf
      cases hf.symm.trans hr

/-- The engine has the turn exactly when its turn is first in the list or the list is empty. -/
theorem nextAction_eq_engine : s.nextAction = .engine ↔ s.inputs = [] ∨ s.inputs.head? = some .engine := by
  refine ⟨nextAction_engine, ?_⟩
  rintro (h | h) <;> simp [State.nextAction, h]

/-- The frame of each variant fits the DisplayBuffer. -/
theorem bufSize_le_dbCap (v : PanelVariant) : bufSize v ≤ Config.dbCap := by cases v <;> decide

variable {s}

/-- A running scan's pixel step writes inside the DisplayBuffer: with the cursor in the region, the only fault
left is the one at an address that is not admitted. -/
theorem State.Inv.pixelStep_fault (hs : s.Inv) (hb : s.busy = true) (f : Fault) :
    pixelStep s = .fault f ↔
      f = .sourceNotAdmitted ∧ srcAdmit (scanAddress s s.cx.toNat s.cy.toNat) s = false := by
  have hi : dbIndex s.lMode s.variant s.cx.toNat s.cy.toNat < Config.dbCap :=
    (dbIndex_lt_bufSize _ _ (hs.cursor_column hb) (hs.cursor_row hb)).trans_le (bufSize_le_dbCap _)
  simp [Machine.pixelStep_fault, hi]

/-- From a state that meets the invariant the engine's turn faults only on a source address not admitted. -/
theorem State.Inv.engineTurn_fault (hs : s.Inv) (f : Fault) :
    engineTurn s = .fault f ↔ f = .sourceNotAdmitted ∧ s.busy = true ∧
      srcAdmit (scanAddress s s.cx.toNat s.cy.toNat) s = false := by
  rw [Machine.engineTurn_fault, and_congr_right fun hb => hs.pixelStep_fault hb f, and_left_comm]

end Stops

/-- Settles O37: a step is one action, refused exactly when ill formed; the engine's own turn never is. -/
theorem refusedExactlyWhenIllFormed : Obligations.RefusedExactlyWhenIllFormed := by
  intro s
  rw [step_eq_perform, perform_refused]
  constructor
  · intro h
    refine ⟨s.nextAction, head?_of_nextAction rfl fun he => ?_, h⟩
    rw [he] at h
    cases h
  · rintro ⟨e, he, h⟩
    rwa [State.nextAction, he]

/-- Settles O38: only the engine's turn can fault, and the invariant keeps its index inside the DisplayBuffer. -/
theorem faultsOnlyOnUnbackedSource : Obligations.FaultsOnlyOnUnbackedSource := by
  intro s f hs
  rw [step_eq_perform, perform_fault, nextAction_eq_engine, (hs.setInputs _).engineTurn_fault]
  exact ⟨fun ⟨he, hf, hb, ha⟩ => ⟨hf, hb, he, ha⟩, fun ⟨hf, hb, he, ha⟩ => ⟨he, hf, hb, ha⟩⟩

end Sys2Proof.Machine
end

section
/-! PROOFS for the statements of spec/30_encoding.md: the command words, what a CMD write does, the script
lines, and `wait`, round after round. -/

namespace Sys2Proof

/-! ## Command words -/

section Words
variable {w : Word} {i : Instr}

/-- A word whose ZERO field is 0 is put together from its CLASS and FUNC. -/
theorem commandWord_fields (hz : zeroField w = 0) : commandWord (classField w) (funcField w) = w := by
  have high : zeroField w ++ classField w = w.extractLsb' 4 28 :=
    BitVec.extractLsb'_append_extractLsb'_eq_extractLsb' rfl
  have whole : w.extractLsb' 4 28 ++ funcField w = w.extractLsb' 0 32 :=
    BitVec.extractLsb'_append_extractLsb'_eq_extractLsb' rfl
  calc commandWord (classField w) (funcField w)
      = zeroField w ++ classField w ++ funcField w := by rw [hz]; rfl
    _ = w.extractLsb' 4 28 ++ funcField w := by rw [high]
    _ = w := by rw [whole, BitVec.extractLsb'_eq_self]

/-- The fields of a word, read as numbers, give back the word. -/
theorem commandWord_of_fields {c f : Nat} (hz : ¬zeroField w ≠ 0) (hc : (classField w).toNat = c)
    (hf : (funcField w).toNat = f) : commandWord (BitVec.ofNat 4 c) (BitVec.ofNat 4 f) = w := by
  rw [← hc, ← hf, BitVec.ofNat_toNat, BitVec.ofNat_toNat, BitVec.setWidth_eq, BitVec.setWidth_eq]
  exact commandWord_fields (not_not.1 hz)

/-- A word that decodes to a command is the command's word: branch by branch of the decoder, which looks at
every field of the word. -/
theorem encode_of_decode (h : decode w = .ok i) : encode i = w := by
  unfold decode at h
  split at h
  · cases h
  next hz =>
    split at h
    next hc =>
      split at h
      next hf => cases h; exact commandWord_of_fields hz hc hf
      · cases h
    next hc =>
      split at h
      next hf => cases h; exact commandWord_of_fields hz hc hf
      next hf => cases h; exact commandWord_of_fields hz hc hf
      next hf => cases h; exact commandWord_of_fields hz hc hf
      next hf => cases h; exact commandWord_of_fields hz hc hf
      · cases h
    next hc =>
      split at h
      next hf => cases h; exact commandWord_of_fields hz hc hf
      next hf => cases h; exact commandWord_of_fields hz hc hf
      next hf => cases h; exact commandWord_of_fields hz hc hf
      next hf => cases h; exact commandWord_of_fields hz hc hf
      · cases h
    · cases h

/-- The word of a command decodes to it (R91). -/
@[simp] theorem decode_encode (i : Instr) : decode (encode i) = .ok i := by
  cases i with
  | nop => exact Laws.EncodeRoundTrip.nop.2
  | conv => exact Laws.EncodeRoundTrip.conv.2
  | convs => exact Laws.EncodeRoundTrip.convs.2
  | conv4 => exact Laws.EncodeRoundTrip.conv4.2
  | conv4s => exact Laws.EncodeRoundTrip.conv4s.2
  | crop => exact Laws.EncodeRoundTrip.crop.2
  | scale => exact Laws.EncodeRoundTrip.scale.2
  | decim2 => exact Laws.EncodeRoundTrip.decim2.2
  | run => exact Laws.EncodeRoundTrip.run.2

/-- The decoder and the encoder are each other's inverse. -/
theorem decode_eq_ok : decode w = .ok i ↔ w = encode i :=
  ⟨fun h => (encode_of_decode h).symm, fun h => h ▸ decode_encode i⟩

/-- The decoder refuses exactly the words of no command (R93). -/
theorem decode_error_iff : (∃ e, decode w = .error e) ↔ ∀ i, w ≠ encode i := by
  cases hd : decode w with
  | error e => exact iff_of_true ⟨e, rfl⟩ fun i hi => by simp [decode_eq_ok.2 hi] at hd
  | ok i => exact iff_of_false (fun ⟨_, he⟩ => by cases he) fun h => h i (decode_eq_ok.1 hd)

/-- The decoder reads a table word through its low bits. -/
theorem decodeTableWord_eq_some {nbits w : Nat} :
    decodeTableWord nbits w = some i ↔ w % 2 ^ nbits = (encode i).toNat := by
  unfold decodeTableWord
  split
  next hw =>
    have ht : (tableWord nbits w).toNat = w % 2 ^ nbits := Nat.mod_eq_of_lt hw
    rw [← ht, ← BitVec.toNat_eq, ← decode_eq_ok]
    cases decode (tableWord nbits w) <;> simp [Except.toOption]
  next hw => exact iff_of_false (by simp) fun h => hw (h ▸ (encode i).isLt)

/-- The table word of a row that decodes is a word that decodes. -/
theorem decode_tableWord {nbits w : Nat} (h : decodeTableWord nbits w = some i) :
    decode (tableWord nbits w) = .ok i := by
  rw [decode_eq_ok, tableWord, decodeTableWord_eq_some.1 h, BitVec.ofNat_toNat, BitVec.setWidth_eq]

/-- R91's test of a row: every row's mask is all ones and its match is the command's word. -/
theorem decode_eq_ok_iff_match (w : Word) (i : Instr) : decode w = .ok i ↔ w &&& 0xFFFFFFFF = encode i := by
  rw [decode_eq_ok, show (0xFFFFFFFF : Word) = BitVec.allOnes 32 from rfl, BitVec.and_allOnes]

/-- The commands' words as numbers: ZERO is 0, and OPCODE is 0x00, 0x10 to 0x13, or 0x20 to 0x23 (R91). -/
theorem isCommand_iff_opcode :
    (∃ i, w = encode i) ↔ w.extractLsb' 8 24 = 0 ∧
      ((w.extractLsb' 0 8).toNat = 0 ∨
       (0x10 ≤ (w.extractLsb' 0 8).toNat ∧ (w.extractLsb' 0 8).toNat ≤ 0x13) ∨
       (0x20 ≤ (w.extractLsb' 0 8).toNat ∧ (w.extractLsb' 0 8).toNat ≤ 0x23)) := by
  constructor
  · rintro ⟨i, rfl⟩
    cases i with
    | nop | conv | convs | conv4 | conv4s | crop | scale | decim2 | run => decide
  · rintro ⟨hz, ho⟩
    have word_eq {i : Instr} (h : (w.extractLsb' 0 8).toNat = (encode i).toNat) : ∃ i, w = encode i := by
      refine ⟨i, BitVec.eq_of_toNat_eq ?_⟩
      have hz' : w.toNat / 2 ^ 8 % 2 ^ 24 = 0 := by
        simpa [BitVec.extractLsb'_toNat, Nat.shiftRight_eq_div_pow] using congrArg BitVec.toNat hz
      have hw := w.isLt
      rw [← h, BitVec.extractLsb'_toNat]
      omega
    rcases ho with ho | ⟨hl, hu⟩ | ⟨hl, hu⟩
    · exact word_eq (i := .nop) ho
    · obtain h | h | h | h : (w.extractLsb' 0 8).toNat = 0x10 ∨ (w.extractLsb' 0 8).toNat = 0x11 ∨
          (w.extractLsb' 0 8).toNat = 0x12 ∨ (w.extractLsb' 0 8).toNat = 0x13 := by omega
      · exact word_eq (i := .conv) h
      · exact word_eq (i := .convs) h
      · exact word_eq (i := .conv4) h
      · exact word_eq (i := .conv4s) h
    · obtain h | h | h | h : (w.extractLsb' 0 8).toNat = 0x20 ∨ (w.extractLsb' 0 8).toNat = 0x21 ∨
          (w.extractLsb' 0 8).toNat = 0x22 ∨ (w.extractLsb' 0 8).toNat = 0x23 := by omega
      · exact word_eq (i := .crop) h
      · exact word_eq (i := .scale) h
      · exact word_eq (i := .decim2) h
      · exact word_eq (i := .run) h

end Words

/-- Settles O3: the decoder and the encoder are inverse to each other, so the encoder is injective, and a table
word of 32 bits is a word. -/
theorem decodeAndEncodeAgree : Obligations.DecodeAndEncodeAgree := by
  refine ⟨fun i _ => decode_encode i, fun w i => encode_of_decode, fun i j h => ?_,
    fun w i => decodeTableWord_eq_some⟩
  have hij : (.ok i : Except Illegal Instr) = .ok j := by rw [← decode_encode i, h, decode_encode]
  exact Except.ok.inj hij

/-- Settles O2: R91's test, row by row, and the three FUNC codes. -/
theorem wordIsACommandExactlyWhenItMatches : Obligations.WordIsACommandExactlyWhenItMatches := by
  refine ⟨fun w => ?_, by decide, by decide, by decide⟩
  have row := decode_eq_ok_iff_match w
  exact ⟨row .nop, row .conv, row .convs, row .conv4, row .conv4s, row .crop, row .scale, row .decim2, row .run⟩

/-- Settles O1: each word is its command's word. -/
theorem commandWordsDecodeAsTabled : Obligations.CommandWordsDecodeAsTabled :=
  ⟨decode_encode .nop, decode_encode .conv, decode_encode .convs, decode_encode .conv4, decode_encode .conv4s,
    decode_encode .crop, decode_encode .scale, decode_encode .decim2, decode_encode .run⟩

end Sys2Proof

namespace Sys2Proof.Machine

/-! ## A CMD write -/

section CmdWrite
variable {s : State} {w : Word} {i : Instr}

/-- A CMD write is `issueCommand`. -/
theorem step_before_cmd (w : Word) (s : State) : step (s.before (.portWrite .word 0x00 w)) = issueCommand w s :=
  step_before_writeRegister .cmd w s

/-- Raising ERR_BUSY sets ERR_BUSY and nothing else. -/
theorem raiseError_errBusy_eq (s : State) : raiseError .errBusy s = { s with errBusy := true } := by
  simp [raiseError]

/-- Raising ERR_ILL sets ERR_ILL and nothing else. -/
theorem raiseError_errIll_eq (s : State) : raiseError .errIll s = { s with errIll := true } := by
  simp [raiseError]

/-- First check of R94: BUSY. -/
theorem issueCommand_busy (w : Word) (hb : s.busy = true) : issueCommand w s = .next (raiseError .errBusy s) := by
  simp [issueCommand, hb]

/-- Second check of R94: legality. -/
theorem issueCommand_illegal (hb : s.busy = false) (hd : ∃ e, decode w = .error e) :
    issueCommand w s = .next (raiseError .errIll s) := by
  obtain ⟨e, he⟩ := hd
  simp [issueCommand, hb, he]

/-- Third case of R94: the command. -/
theorem issueCommand_command (hb : s.busy = false) (hd : decode w = .ok i) : issueCommand w s = exec i s := by
  simp [issueCommand, hb, hd]

/-- Every command repeats the check of BUSY (log 9). -/
theorem exec_busy (i : Instr) (hb : s.busy = true) : exec i s = .next (raiseError .errBusy s) := by
  obtain ⟨t, ht⟩ := exec_answers s i
  obtain ⟨-, rfl⟩ | ⟨hb', -⟩ := exec_next i s t ht
  · exact ht
  · simp [hb] at hb'

/-- So a word that decodes is issued as its command, busy or not. -/
theorem issueCommand_of_decode (hd : decode w = .ok i) : issueCommand w s = exec i s := by
  cases hb : s.busy with
  | false => exact issueCommand_command hb hd
  | true => rw [issueCommand_busy w hb, exec_busy i hb]

/-- What a command performed while BUSY = 0 leaves: a scan command is accepted, with BUSY = 1 and the latches
loaded, every other command is complete, with BUSY = 0 (R94). -/
theorem exec_idle (i : Instr) (hb : s.busy = false) :
    ∃ t, exec i s = .next t ∧
      if i = .crop ∨ i = .scale ∨ i = .decim2 ∨ i = .run then
        t.busy = true ∧ t.lBase = s.srcBase ∧ t.lStride = s.srcStride
      else t.busy = false ∧ t.inputs = s.inputs := by
  obtain ⟨t, ht⟩ := exec_answers s i
  refine ⟨t, ht, ?_⟩
  obtain ⟨hb', -⟩ | ⟨-, h⟩ := exec_next i s t ht
  · simp [hb] at hb'
  · rcases h with ⟨rfl, rfl⟩ | ⟨rfl, rfl⟩ | ⟨rfl, rfl⟩ | ⟨rfl, rfl⟩ | ⟨rfl, rfl⟩ | ⟨rfl, rfl⟩ | ⟨rfl, rfl⟩ |
      ⟨rfl, rfl⟩ | ⟨rfl, rfl⟩ <;>
    simp [hb, convertLane0_eq, convertLanes_eq]

end CmdWrite

/-- Settles O4: illegal words are the complement of the nine, by the numbers of their fields, and meet the second
check of a CMD write. -/
theorem illegalWordsRaiseErrIllOnly : Obligations.IllegalWordsRaiseErrIllOnly := by
  refine fun w => ⟨decode_error_iff, ?_, fun s hb hd => ?_⟩
  · have hw := (w.extractLsb' 0 8).isLt
    rw [decode_error_iff, ← not_exists, isCommand_iff_opcode]
    by_cases hz : w.extractLsb' 8 24 = 0
    · simp only [hz, true_and, ne_eq, not_true_eq_false, false_or]
      omega
    · exact iff_of_true (fun h => hz h.1) (.inl hz)
  · rw [step_before_cmd, issueCommand_illegal hb hd, raiseError_errIll_eq]

/-- Settles O6: the three cases of R94 in their order, the third by command. -/
theorem cmdWriteChecksBusyThenLegality : Obligations.CmdWriteChecksBusyThenLegality := by
  intro s w
  rw [step_before_cmd]
  refine ⟨fun hb => ?_, fun hb hw => ?_, fun i hb hw => ?_⟩
  · rw [issueCommand_busy w hb, raiseError_errBusy_eq]
  · rw [issueCommand_illegal hb (decode_error_iff.2 hw), raiseError_errIll_eq]
  · obtain ⟨t, ht, hdone⟩ := exec_idle i hb
    exact ⟨t, (issueCommand_command hb (decode_eq_ok.2 hw)).trans ht, ht, hdone⟩

/-- Settles O5: a CMD write of a word that decodes is its command, and so is the write of a table word. -/
theorem stepRunsTheDecodedCommand : Obligations.StepRunsTheDecodedCommand := by
  refine ⟨fun s w i hd _ => ?_, fun s nbits w i hd _ => ?_⟩
  · rw [step_before_cmd, issueCommand_of_decode hd]
  · exact (step_before_cmd (tableWord nbits w) s).trans (issueCommand_of_decode (decode_tableWord hd))

/-! ## Script lines -/

/-- The register port carries a word access at a register's offset (R61). -/
theorem portAccessWf_registerOffset (r : Reg) : portAccessWf .word (registerOffset r) = true := by
  rw [← Bool.not_eq_false, ← portTarget_eq_none, portTarget_registerOffset]
  simp

/-- A well-formed line gives well-formed actions: the register lines by their registers' offsets, the DB lines by
their indexes. -/
theorem lineActions_wf {l : Line} (hl : l.wf = true) : ∀ e ∈ lineActions l, e.wf = true := by
  have port := portAccessWf_registerOffset
  cases l with
  | db i | dbb k => simpa [lineActions, Input.wf, Line.wf] using hl
  | wr | rd | cmd | cmdw | wait | frame | clrerr | conv1 =>
    simp [lineActions, writeAction, readAction, Input.wf, port]

/-- Settles O39: every line by its expansion, `wr` and `rd` at the register's own offset. -/
theorem scriptLinesExpand : Obligations.ScriptLinesExpand := by
  refine ⟨fun w => rfl, fun i => rfl, fun b st => rfl, rfl, fun i => ⟨rfl, rfl⟩, rfl, fun p => rfl, fun r v => ?_,
    fun l => lineActions_wf⟩
  exact ⟨registerOffset r, rfl, rfl, portTarget_registerOffset r⟩

end Sys2Proof.Machine
end

section
/-! PROOFS for the statements of spec/30_encoding.md on `wait`: one round, the rounds on a stuck scan, and the
rounds that end with the scan. For the last the scan's own progress comes first: what a pixel step inside the
region does, and what `k` of them have done. -/

namespace Sys2Proof.Machine

/-! ## One round of `wait` -/

section Round
variable {s : State} {e : Input}

/-- STATUS shows BUSY in bit 0 (R23). -/
theorem statusWord_getLsbD_zero (s : State) : (statusWord s).getLsbD 0 = s.busy := by
  have bit (n : Nat) (b : Bool) : (bitAt n b).getLsbD 0 = (decide (n = 0) && b) := by
    cases b <;> cases n <;> simp [bitAt]
  simp only [statusWord, BitVec.getLsbD_or, bit]
  simp

/-- The agents that go on while the host polls are the engine, the producer and the platform (log 12). -/
theorem actsDuringWait_iff :
    actsDuringWait e = true ↔
      e = .engine ∨ e = .reset ∨ (∃ a p, e = .produce a p) ∨ ∃ u, e = .setBacking u := by
  cases e with
  | engine | produce | setBacking | reset | portWrite | portRead | waitIdle | dbRead | dbByte =>
    simp [actsDuringWait]

/-- Another agent's waiting action comes between two reads. -/
theorem pollAgain_of_acts {rest : List Input} (hi : s.inputs = e :: rest) (he : actsDuringWait e = true) :
    pollAgain s = e :: .waitIdle :: rest := by
  simp [pollAgain, hi, he]

/-- With no such action waiting, a pixel step comes between two reads where it has a successor, else nothing. -/
theorem pollAgain_of_waits (hw : ∀ e, s.inputs.head? = some e → actsDuringWait e = false) :
    pollAgain s =
      if pixelStepAdmitted s then .engine :: .waitIdle :: s.inputs else .waitIdle :: s.inputs := by
  have hany : s.inputs.head?.any actsDuringWait = false := by
    rw [Option.any_eq_false_iff_get]
    exact fun h => hw _ (Option.some_get h).symm
  rw [pollAgain, hany, if_neg Bool.false_ne_true]

/-- The round that ends `wait`. -/
theorem step_waitIdle_idle (hb : s.busy = false) :
    step (s.before .waitIdle) = .next { s with replies := .register (statusWord s) :: s.replies } := by
  rw [step_before, perform, pollStatus_of_idle s hb]
  rfl

/-- A round that does not end `wait`. -/
theorem step_waitIdle_busy (hb : s.busy = true) :
    step (s.before .waitIdle) =
      .next { s with replies := .register (statusWord s) :: s.replies, inputs := pollAgain s } := by
  rw [step_before, perform, pollStatus_of_busy s hb]
  rfl

end Round

/-- Settles O40: the two kinds of rounds, and what comes between two reads. -/
theorem waitPollsStatus : Obligations.WaitPollsStatus := by
  refine fun s => ⟨step_waitIdle_idle, fun hb => ⟨pollAgain s, step_waitIdle_busy hb, fun e rest hi he => ?_,
    fun hw => pollAgain_of_waits fun e he => ?_⟩⟩
  · exact pollAgain_of_acts hi (actsDuringWait_iff.2 he)
  · obtain ⟨h1, h2, h3, h4⟩ := hw e he
    rw [← Bool.not_eq_true, actsDuringWait_iff]
    simp [h1, h2, h3, h4]

/-! ## `wait` on a stuck scan -/

section Stuck
variable {s : State}

/-- `s` after `n` host reads that handed back `v`. -/
def State.withReads (s : State) (v : Word) (n : Nat) : State :=
  { s with replies := List.replicate n (.register v) ++ s.replies }

/-- A round on a stuck scan: STATUS is handed back, and `wait` stands where it stood. -/
theorem step_waitIdle_stuck (hb : s.busy = true) (ha : pixelStepAdmitted s = false)
    (hw : ∀ e, s.inputs.head? = some e → actsDuringWait e = false) :
    step (s.before .waitIdle) = .next ((s.withReads (statusWord s) 1).before .waitIdle) := by
  rw [step_waitIdle_busy hb, pollAgain_of_waits hw, ha]
  rfl

/-- The rounds on a stuck scan, one reply each. -/
theorem run_waitIdle_stuck (n : Nat) (hb : s.busy = true) (ha : pixelStepAdmitted s = false)
    (hw : ∀ e, s.inputs.head? = some e → actsDuringWait e = false) :
    Host.Core.run core n (s.before .waitIdle) = .next ((s.withReads (statusWord s) n).before .waitIdle) := by
  induction n with
  | zero => rfl
  | succ n ih => exact (run_add ih).trans (run_one (step_waitIdle_stuck hb ha hw))

end Stuck

/-- Settles O56: the rounds on a stuck scan, by induction on their number. -/
theorem waitOnAStuckScanKeepsReading : Obligations.WaitOnAStuckScanKeepsReading :=
  fun s n hb ha hw => ⟨(statusWord_getLsbD_zero s).trans hb, run_waitIdle_stuck n hb ha hw⟩

/-! ## One pixel step inside the region -/

section PixelStep
variable {s : State}

/-- The cursor stands inside the region of the latched scan. -/
def State.CursorInside (s : State) : Prop :=
  s.cx.toNat < regionWidth s.lMode s.variant ∧ s.cy.toNat < regionHeight s.lMode s.variant

/-- What a pixel step that has a successor leaves (R136); `pixelStep_eq` ties it to the engine's step. -/
def pixelStepped (s : State) : State :=
  advanceCursor (dbWrite (dbIndex s.lMode s.variant s.cx.toNat s.cy.toNat)
    (converterOf s.lMode (srcMem (scanAddress s s.cx.toNat s.cy.toNat) s)) s)

/-- Inside the region an admitted pixel step answers: its index is below DB_CAP. -/
theorem pixelStep_eq (hc : s.CursorInside) (ha : pixelStepAdmitted s = true) :
    pixelStep s = .next (pixelStepped s) := by
  obtain ⟨hx, hy⟩ := hc
  exact (pixelStep_next _ _).2 ⟨ha, (dbIndex_lt_bufSize _ _ hx hy).trans_le (bufSize_le_dbCap _), rfl⟩

/-- The entries after a pixel step: the one at the cursor converted, every other one kept. -/
theorem dbRead_pixelStepped (i : Nat) (s : State) :
    dbRead i (pixelStepped s) =
      if i = dbIndex s.lMode s.variant s.cx.toNat s.cy.toNat then
        converterOf s.lMode (srcMem (scanAddress s s.cx.toNat s.cy.toNat) s)
      else dbRead i s := by
  rw [pixelStepped, dbRead_advanceCursor, dbRead_dbWrite]

/-- The column after a pixel step. -/
theorem pixelStepped_cx (hc : s.CursorInside) :
    (pixelStepped s).cx.toNat =
      if s.cx.toNat + 1 = regionWidth s.lMode s.variant then 0 else s.cx.toNat + 1 :=
  advanceCursor_cx (dbWrite _ _ s) hc.1

/-- The row after a pixel step. -/
theorem pixelStepped_cy (hc : s.CursorInside) :
    (pixelStepped s).cy.toNat =
      if s.cx.toNat + 1 = regionWidth s.lMode s.variant then s.cy.toNat + 1 else s.cy.toNat :=
  advanceCursor_cy (dbWrite _ _ s) hc.1 hc.2

/-- After a pixel step of a running scan, BUSY says whether the cursor is still above the region's end. -/
theorem pixelStepped_busy (hb : s.busy = true) (hc : s.CursorInside) :
    (pixelStepped s).busy = decide ((pixelStepped s).cy.toNat < regionHeight s.lMode s.variant) := by
  have hcy := pixelStepped_cy hc
  have hy := hc.2
  have hbusy : (pixelStepped s).busy =
      (s.busy && decide ((pixelStepped s).cy.toNat ≠ regionHeight s.lMode s.variant)) := rfl
  rw [hbusy, hb, Bool.true_and, decide_eq_decide]
  split at hcy <;> omega

/-- In one region no two positions share an entry (R145): linear once strategy and variant are fixed. -/
theorem dbIndex_injective (m : RenderMode) (v : PanelVariant) {x y x' y' : Nat} (hx : x < regionWidth m v)
    (hx' : x' < regionWidth m v) (h : dbIndex m v x y = dbIndex m v x' y') : x = x' ∧ y = y' := by
  cases m <;> cases v <;>
    simp only [regionWidth, dbIndex, decimOffsetX, panelWidth, Config.panelWidthA, Config.panelWidthB,
      Config.decW] at * <;>
    omega

/-- A pixel step writes the position at the cursor and keeps those written before: all positions before the new
cursor are written. -/
theorem pixelStepped_writtenSoFar (hc : s.CursorInside) (hs : s.WrittenSoFar) :
    (pixelStepped s).WrittenSoFar := by
  intro x y hx hxy
  change x < regionWidth s.lMode s.variant at hx
  change dbRead (dbIndex s.lMode s.variant x y) (pixelStepped s) =
    converterOf s.lMode (srcMem (scanAddress s x y) s)
  rw [dbRead_pixelStepped]
  by_cases hcur : x = s.cx.toNat ∧ y = s.cy.toNat
  · obtain ⟨rfl, rfl⟩ := hcur
    exact if_pos rfl
  · rw [if_neg fun h => hcur (dbIndex_injective _ _ hx hc.1 h)]
    refine hs x y hx ?_
    rw [pixelStepped_cx hc, pixelStepped_cy hc] at hxy
    have hcx := hc.1
    split at hxy <;> omega

end PixelStep

/-! ## The result of a scan -/

section Result
variable {s t : State} {m : RenderMode} {v : PanelVariant} {base stride : Word}

/-- R65's address with the product not reduced, as R145 writes it. -/
theorem sourceAddress_unreduced (base stride : Word) (sx sy : Nat) :
    sourceAddress base stride sx sy = BitVec.ofNat 32 (base.toNat + sy * stride.toNat + sx) := by
  apply BitVec.eq_of_toNat_eq
  simp only [sourceAddress, BitVec.toNat_ofNat]
  omega

/-- R145's result from the writes of R136, position by position: the three strategies' indexes, source pixels and
converters written out. -/
theorem scanResult_of_written
    (hw : ∀ x y, x < regionWidth m v → y < regionHeight m v →
      dbRead (dbIndex m v x y) t =
        converterOf m (srcMem (sourceAddress base stride (sourceX m v x) (sourceY m v y)) s))
    (ho : ∀ i, (∀ x y, x < regionWidth m v → y < regionHeight m v → i ≠ dbIndex m v x y) →
      dbRead i t = dbRead i s) :
    ScanResult m v (sourceImage base stride s) s t := by
  simp only [sourceAddress_unreduced] at hw
  refine ⟨?_, ho⟩
  cases m with
  | crop | scaledNearest | integerDecimate2x => exact hw

end Result

/-! ## The scan after `k` pixel steps -/

section Scanned
variable {s : State} {k : Nat}

/-- What `k` pixel steps leave. -/
def State.scanned (s : State) : Nat → State
  | 0 => s
  | k + 1 => pixelStepped (s.scanned k)

/-- The number of pixel steps of the latched scan, RW * RH (R137). -/
def State.scanLength (s : State) : Nat := regionWidth s.lMode s.variant * regionHeight s.lMode s.variant

/-- The last pixel step leaves the column 0 of the row below the region. -/
theorem scanLength_mod (s : State) : s.scanLength % regionWidth s.lMode s.variant = 0 := Nat.mul_mod_right _ _

theorem scanLength_div (s : State) :
    s.scanLength / regionWidth s.lMode s.variant = regionHeight s.lMode s.variant :=
  Nat.mul_div_cancel_left _ (regionWidth_pos _ _)

/-- Pixel steps change the DisplayBuffer, the cursor and BUSY only. -/
theorem scanned_frame (s : State) (k : Nat) :
    s.scanned k = { s with
      db := (s.scanned k).db, cx := (s.scanned k).cx, cy := (s.scanned k).cy, busy := (s.scanned k).busy } := by
  induction k with
  | zero => rfl
  | succ k ih =>
    exact congrArg (fun t : State => { t with
      db := (s.scanned (k + 1)).db, cx := (s.scanned (k + 1)).cx, cy := (s.scanned (k + 1)).cy,
      busy := (s.scanned (k + 1)).busy }) ih

theorem scanned_lMode (s : State) (k : Nat) : (s.scanned k).lMode = s.lMode := by rw [scanned_frame]
theorem scanned_variant (s : State) (k : Nat) : (s.scanned k).variant = s.variant := by rw [scanned_frame]
theorem scanned_inputs (s : State) (k : Nat) : (s.scanned k).inputs = s.inputs := by rw [scanned_frame]

/-- Every pixel step of a scan computes the same addresses. -/
theorem scanned_scanAddress (s : State) (k x y : Nat) : scanAddress (s.scanned k) x y = scanAddress s x y := by
  rw [scanned_frame]
  rfl

/-- Every pixel step of a scan finds the same source pixels. -/
theorem scanned_srcMem (s : State) (k : Nat) (a : Word) : srcMem a (s.scanned k) = srcMem a s := by
  rw [scanned_frame]
  rfl

/-- Every pixel step of a scan finds the same addresses admitted. -/
theorem scanned_srcAdmit (s : State) (k : Nat) (a : Word) : srcAdmit a (s.scanned k) = srcAdmit a s := by
  rw [scanned_frame]
  rfl

/-- STATUS changes only with BUSY. -/
theorem scanned_statusWord (h : (s.scanned k).busy = s.busy) : statusWord (s.scanned k) = statusWord s := by
  rw [scanned_frame, h]
  rfl

/-- Every region has more than one column. -/
theorem one_lt_regionWidth (m : RenderMode) (v : PanelVariant) : 1 < regionWidth m v := by
  cases m <;> cases v <;> decide

/-- The next position in row-major order: the columns wrap at the region's width. -/
theorem succ_mod_div {w : Nat} (hw : 1 < w) (k : Nat) :
    (k + 1) % w = (if k % w + 1 = w then 0 else k % w + 1) ∧
    (k + 1) / w = if k % w + 1 = w then k / w + 1 else k / w := by
  have hlt := Nat.mod_lt k (Nat.zero_lt_of_lt hw)
  have h1 : 1 % w = 1 := Nat.mod_eq_of_lt hw
  have h0 : 1 / w = 0 := Nat.div_eq_of_lt hw
  constructor
  · rw [Nat.add_mod_eq_ite, h1]
    split <;> split <;> omega
  · rw [Nat.add_div (Nat.zero_lt_of_lt hw), h1, h0]
    split <;> split <;> omega

variable (hb : s.busy = true) (hx : s.cx = 0) (hy : s.cy = 0)
include hb hx hy

/-- The cursor after `k` pixel steps of a scan just accepted (R34, R137): row-major order, BUSY = 1 while it is
inside the region. -/
theorem scanned_cursor (hk : k ≤ s.scanLength) :
    (s.scanned k).cx.toNat = k % regionWidth s.lMode s.variant ∧
    (s.scanned k).cy.toNat = k / regionWidth s.lMode s.variant ∧
    (s.scanned k).busy = decide (k / regionWidth s.lMode s.variant < regionHeight s.lMode s.variant) := by
  induction k with
  | zero => simp [State.scanned, hb, hx, hy, regionHeight_pos]
  | succ k ih =>
    obtain ⟨hcx, hcy, hbusy⟩ := ih (by omega)
    have hrow : k / regionWidth s.lMode s.variant < regionHeight s.lMode s.variant :=
      Nat.div_lt_of_lt_mul hk
    have hc : (s.scanned k).CursorInside := by
      rw [State.CursorInside, scanned_lMode, scanned_variant, hcx, hcy]
      exact ⟨Nat.mod_lt _ (regionWidth_pos _ _), hrow⟩
    obtain ⟨hmod, hdiv⟩ := succ_mod_div (one_lt_regionWidth s.lMode s.variant) k
    have hcy' : (s.scanned (k + 1)).cy.toNat = (k + 1) / regionWidth s.lMode s.variant := by
      rw [State.scanned, pixelStepped_cy hc, scanned_lMode, scanned_variant, hcx, hcy, hdiv]
    refine ⟨?_, hcy', ?_⟩
    · rw [State.scanned, pixelStepped_cx hc, scanned_lMode, scanned_variant, hcx, hmod]
    · rw [← hcy', State.scanned, pixelStepped_busy (by simp [hbusy, hrow]) hc, scanned_lMode, scanned_variant]

/-- While fewer than RW * RH pixel steps are done, the cursor is inside the region and BUSY = 1. -/
theorem scanned_running (hk : k < s.scanLength) :
    (s.scanned k).CursorInside ∧ (s.scanned k).busy = true := by
  obtain ⟨hcx, hcy, hbusy⟩ := scanned_cursor hb hx hy hk.le
  have hrow := Nat.div_lt_of_lt_mul hk
  rw [State.CursorInside, scanned_lMode, scanned_variant, hcx, hcy, hbusy]
  exact ⟨⟨Nat.mod_lt _ (regionWidth_pos _ _), hrow⟩, decide_eq_true hrow⟩

/-- Every position before the cursor is written. -/
theorem scanned_writtenSoFar (hk : k ≤ s.scanLength) : (s.scanned k).WrittenSoFar := by
  induction k with
  | zero => intro x y _ hxy; simp [State.scanned, hx, hy] at hxy
  | succ k ih => exact pixelStepped_writtenSoFar (scanned_running hb hx hy hk).1 (ih (Nat.le_of_lt hk))

/-- An entry of no region position is kept. -/
theorem dbRead_scanned_outside {i : Nat}
    (hi : ∀ x y, x < regionWidth s.lMode s.variant → y < regionHeight s.lMode s.variant →
      i ≠ dbIndex s.lMode s.variant x y)
    (hk : k ≤ s.scanLength) :
    dbRead i (s.scanned k) = dbRead i s := by
  induction k with
  | zero => rfl
  | succ k ih =>
    obtain ⟨hcx, hcy⟩ := (scanned_running hb hx hy hk).1
    rw [scanned_lMode, scanned_variant] at hcx hcy
    rw [State.scanned, dbRead_pixelStepped, scanned_lMode, scanned_variant, if_neg (hi _ _ hcx hcy),
      ih (Nat.le_of_lt hk)]

/-- The state after the scan's last pixel step: BUSY is cleared and the cursor stands below the region. -/
theorem scanned_end :
    s.scanned s.scanLength =
      { s with
        db := (s.scanned s.scanLength).db, busy := false, cx := 0,
        cy := BitVec.ofNat 8 (regionHeight s.lMode s.variant) } := by
  obtain ⟨hcx, hcy, hbusy⟩ := scanned_cursor hb hx hy le_rfl
  rw [scanLength_mod] at hcx
  rw [scanLength_div] at hcy hbusy
  have hcx' := BitVec.eq_of_toNat_eq (y := 0) hcx
  have hcy' := BitVec.eq_of_toNat_eq (y := BitVec.ofNat 8 (regionHeight s.lMode s.variant))
    (hcy.trans (Nat.mod_eq_of_lt ((regionHeight_le _ _).trans_lt (by decide))).symm)
  rw [scanned_frame, hcx', hcy', hbusy, decide_eq_false (lt_irrefl _)]

/-- The scan's result (R145): the whole region converted, all else kept. -/
theorem scanned_result :
    ScanResult s.lMode s.variant (sourceImage s.lBase s.lStride s) s (s.scanned s.scanLength) := by
  refine scanResult_of_written (fun x y hxw hyh => ?_) fun i hi => dbRead_scanned_outside hb hx hy hi le_rfl
  obtain ⟨-, hcy, -⟩ := scanned_cursor hb hx hy le_rfl
  rw [scanLength_div] at hcy
  have hwritten := scanned_writtenSoFar hb hx hy le_rfl x y (by rwa [scanned_lMode, scanned_variant])
    (.inl (by rwa [hcy]))
  rwa [State.Written, scanned_lMode, scanned_variant, scanned_scanAddress, scanned_srcMem] at hwritten

end Scanned

/-! ## `wait` on a scan just accepted -/

section Rounds
variable {s : State}

/-- A pixel step neither looks at what was read nor adds to it. -/
theorem pixelStepped_withReads (s : State) (v : Word) (n : Nat) :
    pixelStepped (s.withReads v n) = (pixelStepped s).withReads v n := rfl

/-- A pixel step neither looks at the actions waiting nor changes them. -/
theorem pixelStepped_before (s : State) (e : Input) : pixelStepped (s.before e) = (pixelStepped s).before e := rfl

/-- A round whose pixel step has a successor: STATUS is read and one pixel step made. -/
theorem run_waitIdle_admitted (hb : s.busy = true) (hc : s.CursorInside) (ha : pixelStepAdmitted s = true)
    (hw : ∀ e, s.inputs.head? = some e → actsDuringWait e = false) :
    Host.Core.run core 2 (s.before .waitIdle) =
      .next (((pixelStepped s).withReads (statusWord s) 1).before .waitIdle) := by
  have read : step (s.before .waitIdle) =
      .next (((s.withReads (statusWord s) 1).before .waitIdle).before .engine) := by
    rw [step_waitIdle_busy hb, pollAgain_of_waits hw, ha]
    rfl
  have turn : step (((s.withReads (statusWord s) 1).before .waitIdle).before .engine) =
      .next (((pixelStepped s).withReads (statusWord s) 1).before .waitIdle) := by
    rw [step_before, perform, ← pixelStepped_withReads, ← pixelStepped_before]
    exact (engineTurn_busy _ (by exact hb)).trans (pixelStep_eq hc ha)
  exact (run_succ read).trans (run_one turn)

/-- `k` rounds on a scan just accepted: `k` reads that show BUSY = 1 and `k` pixel steps. -/
theorem run_waitIdle_scanned {k : Nat} (hb : s.busy = true) (hx : s.cx = 0) (hy : s.cy = 0)
    (ha : s.AdmitsScan) (hw : ∀ e, s.inputs.head? = some e → actsDuringWait e = false)
    (hk : k ≤ s.scanLength) :
    Host.Core.run core (2 * k) (s.before .waitIdle) =
      .next (((s.scanned k).withReads (statusWord s) k).before .waitIdle) := by
  induction k with
  | zero => rfl
  | succ k ih =>
    obtain ⟨hc, hbusy⟩ := scanned_running hb hx hy hk
    have hstatus : statusWord (s.scanned k) = statusWord s := scanned_statusWord (hbusy.trans hb.symm)
    have hadm : pixelStepAdmitted (s.scanned k) = true := by
      rw [pixelStepAdmitted, scanned_srcAdmit, scanned_scanAddress]
      rw [State.CursorInside, scanned_lMode, scanned_variant] at hc
      exact ha _ _ hc.1 hc.2
    have round := run_waitIdle_admitted (s := (s.scanned k).withReads (statusWord s) k) hbusy hc hadm
      (scanned_inputs s k ▸ hw)
    rw [show statusWord ((s.scanned k).withReads (statusWord s) k) = statusWord s from hstatus] at round
    exact (run_add (ih (Nat.le_of_lt hk))).trans round

end Rounds

/-- Settles O57: RW * RH rounds of one read and one pixel step, and the round that finds BUSY = 0. -/
theorem waitEndsWithTheScan : Obligations.WaitEndsWithTheScan := by
  intro s hb hx hy ha hw
  have hframe := scanned_end hb hx hy
  have hrun := run_waitIdle_scanned hb hx hy ha hw le_rfl
  have hres := scanned_result hb hx hy
  rw [← State.scanLength]
  generalize s.scanLength = n at hframe hrun hres ⊢
  have hbusy : (s.scanned n).busy = false := by rw [hframe]
  have last := step_waitIdle_idle (s := (s.scanned n).withReads (statusWord s) n) hbusy
  refine ⟨((s.scanned n).withReads (statusWord s) n).withReads (statusWord (s.scanned n)) 1,
    (run_add hrun).trans (run_one last), hres, (statusWord_getLsbD_zero s).trans hb,
    (statusWord_getLsbD_zero _).trans hbusy, ?_⟩
  exact congrArg (fun t : State => (t.withReads (statusWord s) n).withReads (statusWord (s.scanned n)) 1) hframe

end Sys2Proof.Machine
end

section
/-! PROOFS for the statements of spec/40_convert.md: the two functions of the converter as puttings-together of
bit fields and of bytes, then what each converter command does to every state. -/

namespace Sys2Proof.Machine

/-! ## The bit fields of a pixel -/

section Fields
variable (p : Word)

/-- `n` bits at bit `k`, taken by shift and mask as R110 does, are the bit field. -/
theorem shiftRight_and_mask (k n : Nat) :
    (p >>> k) &&& BitVec.ofNat 32 (2 ^ n - 1) = (p.extractLsb' k n).setWidth 32 := by
  apply BitVec.eq_of_getLsbD_eq
  intro i hi
  have hmask : (BitVec.ofNat 32 (2 ^ n - 1)).getLsbD i = decide (i < n) := by
    simp only [BitVec.getLsbD_ofNat, Nat.testBit_two_pow_sub_one, hi, decide_true, Bool.true_and]
  simp only [BitVec.getLsbD_and, BitVec.getLsbD_ushiftRight, hmask, BitVec.getLsbD_setWidth,
    BitVec.getLsbD_extractLsb', hi, decide_true, Bool.true_and, Bool.and_comm]

/-- Red is p[23:19]. -/
theorem red_eq : red p = (p.extractLsb' 19 5).setWidth 32 := shiftRight_and_mask p 19 5

/-- Green is p[15:10]. -/
theorem green_eq : green p = (p.extractLsb' 10 6).setWidth 32 := shiftRight_and_mask p 10 6

/-- Blue is p[7:3]. -/
theorem blue_eq : blue p = (p.extractLsb' 3 5).setWidth 32 := shiftRight_and_mask p 3 5

/-- `|` of a value and one shifted past its bits puts the two side by side. -/
theorem shiftLeft_or_eq_append {m n : Nat} (x : BitVec m) (y : BitVec n) :
    (x.setWidth 32 <<< n) ||| y.setWidth 32 = (x ++ y).setWidth 32 := by
  apply BitVec.eq_of_getLsbD_eq
  intro i hi
  by_cases hn : i < n
  · simp [hi, hn, BitVec.getElem_setWidth, BitVec.getLsbD_append]
  · have hy : y.getLsbD i = false := BitVec.getLsbD_of_ge y i (Nat.le_of_not_lt hn)
    simp [hi, hn, hy, BitVec.getElem_setWidth, BitVec.getLsbD_append]

/-- `|` of the shifted fields puts them side by side, 16 bits in all (R117). -/
theorem fields_or :
    (red p <<< 11) ||| (green p <<< 5) ||| blue p =
      (p.extractLsb' 19 5 ++ p.extractLsb' 10 6 ++ p.extractLsb' 3 5).setWidth 32 := by
  rw [← shiftLeft_or_eq_append, ← shiftLeft_or_eq_append, ← red_eq, ← green_eq, ← blue_eq,
    BitVec.shiftLeft_or_distrib, ← BitVec.shiftLeft_add]

/-- `convert` puts p[23:19], p[15:10] and p[7:3] side by side. -/
theorem convert_eq_append :
    convert p = p.extractLsb' 19 5 ++ p.extractLsb' 10 6 ++ p.extractLsb' 3 5 := by
  rw [convert, fields_or, BitVec.setWidth_setWidth_of_le _ (by decide), BitVec.setWidth_eq]

/-- Only the bits of 0x00F8FCF8 matter: the mask is all ones on the three fields. -/
theorem convert_and_mask : convert (p &&& 0x00F8FCF8) = convert p := by
  have r : (0x00F8FCF8 : Word).extractLsb' 19 5 = BitVec.allOnes 5 := rfl
  have g : (0x00F8FCF8 : Word).extractLsb' 10 6 = BitVec.allOnes 6 := rfl
  have b : (0x00F8FCF8 : Word).extractLsb' 3 5 = BitVec.allOnes 5 := rfl
  simp only [convert_eq_append, BitVec.extractLsb'_and, r, g, b, BitVec.and_allOnes]

/-- A value shifted past the bits of another has no bit in common with it. -/
theorem shiftLeft_and_eq_zero {n k : Nat} (x : Word) (y : BitVec n) (h : n ≤ k) :
    (x <<< k) &&& y.setWidth 32 = 0 := by
  apply BitVec.eq_of_getLsbD_eq
  intro i hi
  by_cases hk : i < k
  · simp [hk]
  · have hy : y.getLsbD i = false := BitVec.getLsbD_of_ge y i (by omega)
    simp [hy]

/-- Shifted red and shifted green do not overlap. -/
theorem red_and_green : (red p <<< 11) &&& (green p <<< 5) = 0 := by
  have unshifted : (red p <<< 6) &&& green p = 0 := by
    rw [green_eq]
    exact shiftLeft_and_eq_zero _ _ le_rfl
  calc (red p <<< 11) &&& (green p <<< 5)
      = ((red p <<< 6) &&& green p) <<< 5 := by rw [BitVec.shiftLeft_and_distrib, ← BitVec.shiftLeft_add]
    _ = 0 := by rw [unshifted]; rfl

/-- A value shifted by 5 or more does not overlap blue. -/
theorem shiftLeft_and_blue (x : Word) {k : Nat} (h : 5 ≤ k) : (x <<< k) &&& blue p = 0 := by
  rw [blue_eq]
  exact shiftLeft_and_eq_zero x _ h

end Fields

/-! ## The bytes of a converted pixel -/

section Bytes
variable (v : Half)

/-- `swap16` puts the low byte above the high byte. -/
theorem swap16_eq_append : swap16 v = v.extractLsb' 0 8 ++ v.extractLsb' 8 8 := by
  apply BitVec.eq_of_getLsbD_eq
  intro i hi
  rw [swap16, BitVec.getLsbD_append]
  by_cases hb : i < 8
  · simp [hi, hb]
  · have hlow : i - 8 < 8 := by omega
    have hv : v.getLsbD (8 + i) = false := BitVec.getLsbD_of_ge v _ (by omega)
    simp [hi, hb, hlow, hv, -BitVec.getLsbD_eq_getElem]

/-- The high byte after the swap. -/
theorem swap16_highByte : (swap16 v).extractLsb' 8 8 = v.extractLsb' 0 8 := by
  rw [swap16_eq_append]
  exact BitVec.extractLsb'_append_eq_left

/-- The low byte after the swap. -/
theorem swap16_lowByte : (swap16 v).extractLsb' 0 8 = v.extractLsb' 8 8 := by
  rw [swap16_eq_append]
  exact BitVec.extractLsb'_append_eq_right

/-- `swap16` is its own inverse (R117). -/
theorem swap16_swap16 : swap16 (swap16 v) = v := by
  rw [swap16_eq_append, swap16_highByte, swap16_lowByte, append_bytes]

/-- A value whose two bytes are equal is unchanged by the swap (R114). -/
theorem swap16_of_equal_bytes (h : v.extractLsb' 8 8 = v.extractLsb' 0 8) : swap16 v = v := by
  calc swap16 v = v.extractLsb' 0 8 ++ v.extractLsb' 8 8 := swap16_eq_append v
    _ = v.extractLsb' 8 8 ++ v.extractLsb' 0 8 := by rw [h]
    _ = v := append_bytes v

end Bytes

/-- Settles O8: each field of the result is one of the three that are put side by side. -/
theorem convertPacksTheThreeFields : Obligations.ConvertPacksTheThreeFields := by
  intro p
  refine ⟨rfl, ?_, ?_, ?_⟩
  all_goals rw [convert_eq_append]
  · exact (BitVec.extractLsb'_append_eq_of_le (by decide)).trans BitVec.extractLsb'_append_eq_left
  · exact (BitVec.extractLsb'_append_eq_of_le (by decide)).trans BitVec.extractLsb'_append_eq_right
  · exact BitVec.extractLsb'_append_eq_right

/-- Settles O10: from the fields side by side and the bytes exchanged. -/
theorem converterLaws : Obligations.ConverterLaws := by
  refine ⟨fun p => ⟨(convert_and_mask p).symm, red_and_green p, shiftLeft_and_blue p _ (by decide),
    shiftLeft_and_blue p _ le_rfl, ?_⟩, by decide, swap16_swap16⟩
  rw [fields_or, BitVec.toNat_setWidth_of_le (by decide)]
  exact BitVec.isLt _

/-- Settles O9: the mask keeps all 16 bits, and the bytes are exchanged. -/
theorem swap16ExchangesTheBytes : Obligations.Swap16ExchangesTheBytes :=
  ⟨fun v => ⟨BitVec.and_allOnes.symm, swap16_highByte v, swap16_lowByte v⟩, fun _ => ⟨rfl, rfl⟩⟩

/-! ## The converter commands -/

section Commands
variable (s u : State) (f : Word → Half)

/-- A guarded command answers from every state: ERR_BUSY alone while BUSY = 1, its effect while BUSY = 0. -/
theorem unlessBusy_eq (effect : State → State) :
    unlessBusy effect s = .next (if s.busy then { s with errBusy := true } else effect s) := by
  cases hb : s.busy with
  | false => exact unlessBusy_idle effect s hb
  | true => rw [unlessBusy_busy effect s hb, raiseError_errBusy_eq, hb, if_pos rfl]

/-- A scalar conversion writes lane 0 of PIX_OUT and nothing else (R113, R114). -/
theorem unlessBusy_convertLane0 :
    unlessBusy (convertLane0 f) s = .next
      (if s.busy then { s with errBusy := true }
       else { s with pixOut := { s.pixOut with lane0 := f s.pixIn.lane0 } }) := by
  rw [unlessBusy_eq, convertLane0_eq]
  rfl

/-- A 4-wide conversion writes the four lanes of PIX_OUT and nothing else (R115, R116). -/
theorem unlessBusy_convertLanes :
    unlessBusy (convertLanes f) s = .next
      (if s.busy then { s with errBusy := true }
       else { s with pixOut := ⟨f s.pixIn.lane0, f s.pixIn.lane1, f s.pixIn.lane2, f s.pixIn.lane3⟩ }) := by
  rw [unlessBusy_eq, convertLanes_eq]
  rfl

/-- Lane i of the 4-wide path is lane 0 of the scalar path for the same input (R112). -/
theorem convertLanes_get_eq_convertLane0 {i : Fin 4} (h : u.pixIn.get 0 = s.pixIn.get i) :
    (convertLanes f s).pixOut.get i = (convertLane0 f u).pixOut.get 0 := by
  rw [convertLanes_eq, convertLane0_eq, setPixOut_pixOut, setPixOut_pixOut, Lanes.get_map, Lanes.get_set,
    if_pos rfl, h]

end Commands

/-- Settles O11: both commands complete while idle, with one function on the lane's input. -/
theorem lanesAgreeWithTheScalarPath : Obligations.LanesAgreeWithTheScalarPath := fun s u _ hs hu h =>
  ⟨⟨_, _, unlessBusy_idle _ s hs, unlessBusy_idle _ u hu, convertLanes_get_eq_convertLane0 s u convert h⟩,
    _, _, unlessBusy_idle _ s hs, unlessBusy_idle _ u hu, convertLanes_get_eq_convertLane0 s u convertSwapped h⟩

/-- Settles O12: CONV is lane 0's conversion behind the check of BUSY. -/
theorem convWritesLaneZero : Obligations.ConvWritesLaneZero :=
  ⟨rfl, fun s => (exec_conv s).trans (unlessBusy_convertLane0 s convert), by decide⟩

/-- Settles O13: CONVS is lane 0's swapped conversion behind the check of BUSY. -/
theorem convsWritesLaneZeroSwapped : Obligations.ConvsWritesLaneZeroSwapped :=
  ⟨rfl, fun s => (exec_convs s).trans (unlessBusy_convertLane0 s convertSwapped), by decide, by decide, by decide,
    swap16_of_equal_bytes, by decide⟩

/-- Settles O14: CONV4 is the four lanes' conversion behind the check of BUSY. -/
theorem conv4WritesFourLanes : Obligations.Conv4WritesFourLanes :=
  ⟨rfl, fun s => (exec_conv4 s).trans (unlessBusy_convertLanes s convert), by decide⟩

/-- Settles O15: CONV4S is the four lanes' swapped conversion behind the check of BUSY. -/
theorem conv4sWritesFourLanesSwapped : Obligations.Conv4sWritesFourLanesSwapped :=
  ⟨rfl, fun s => (exec_conv4s s).trans (unlessBusy_convertLanes s convertSwapped), by decide⟩

end Sys2Proof.Machine
end

section
/-! PROOFS for the statements of spec/41_scan.md: the index arithmetic of the strategies, the acceptance of the
scan commands, a scan left alone, and a scan among the actions of the other agents. -/

namespace Sys2Proof.Machine

/-! ## Selection and acceptance -/

section Acceptance
variable {s : State} {i : Instr} {m : RenderMode}

/-- Command `i`, issued in state `s`, starts a scan with strategy `m` (R138 to R141). -/
def ScansWith (s : State) (i : Instr) (m : RenderMode) : Prop :=
  i = .crop ∧ m = .crop ∨ i = .scale ∧ m = .scaledNearest ∨ i = .decim2 ∧ m = .integerDecimate2x ∨
    i = .run ∧ m = select s.variant s.scaled

/-- RUN chooses its strategy from the state in which it is issued. -/
theorem exec_run_select (s : State) : exec .run s = unlessBusy (acceptScan (select s.variant s.scaled)) s := rfl

/-- Every scan command is the acceptance of its strategy behind the check of BUSY. -/
theorem exec_of_scansWith (h : ScansWith s i m) : exec i s = unlessBusy (acceptScan m) s := by
  obtain ⟨rfl, rfl⟩ | ⟨rfl, rfl⟩ | ⟨rfl, rfl⟩ | ⟨rfl, rfl⟩ := h
  · exact exec_crop s
  · exact exec_scale s
  · exact exec_decim2 s
  · exact exec_run_select s

end Acceptance

/-- Settles O16: each scan command is its strategy's acceptance, which R135 writes out field by field. -/
theorem scanCommandsAreAccepted : Obligations.ScanCommandsAreAccepted :=
  fun s hb _ m h => (exec_of_scansWith h).trans (unlessBusy_idle (acceptScan m) s hb)

/-- Settles O17, by the configurations of R130's table. -/
theorem selectionRuleIsReadAndRun : Obligations.SelectionRuleIsReadAndRun := by
  refine ⟨fun b => rfl, rfl, rfl, fun s => ⟨readsAs_registerOffset .rmode s ?_, ?_⟩⟩
  · rw [readRegister]
    cases s.variant with
    | variantB => rfl
    | variantA => cases s.scaled <;> rfl
  · rw [exec_run_select, exec_decim2, exec_scale, exec_crop]
    cases s.variant with
    | variantB => rfl
    | variantA => cases s.scaled <;> rfl

/-! ## Index arithmetic -/

section Geometry

@[simp] theorem panelWidth_variantA : panelWidth .variantA = 184 := rfl
@[simp] theorem panelWidth_variantB : panelWidth .variantB = 160 := rfl
@[simp] theorem panelHeight_variantA : panelHeight .variantA = 96 := rfl
@[simp] theorem panelHeight_variantB : panelHeight .variantB = 80 := rfl

variable (v : PanelVariant) (x y : Nat)

theorem sourceX_crop : sourceX .crop v x = x + (240 - panelWidth v) / 2 := rfl
theorem sourceY_crop : sourceY .crop v y = y + (160 - panelHeight v) / 2 := rfl
theorem sourceX_scaledNearest : sourceX .scaledNearest v x = x * 240 / panelWidth v := rfl
theorem sourceY_scaledNearest : sourceY .scaledNearest v y = y * 160 / panelHeight v := rfl
theorem dbIndex_integerDecimate2x :
    dbIndex .integerDecimate2x v x y = y * panelWidth v + (panelWidth v - 120) / 2 + x := rfl

end Geometry

/-- Settles O18: the definition's own equations, then the offsets of each variant. -/
theorem cropIndexArithmetic : Obligations.CropIndexArithmetic := by
  intro v x y
  refine ⟨rfl, rfl, sourceX_crop v x, sourceY_crop v y, rfl, rfl, ?_⟩
  rw [sourceX_crop, sourceY_crop]
  cases v with
  | variantA =>
    rw [panelWidth_variantA, panelHeight_variantA]
    exact ⟨rfl, rfl, rfl, rfl, fun hx => by omega, fun hy => by omega⟩
  | variantB =>
    rw [panelWidth_variantB, panelHeight_variantB]
    exact ⟨rfl, rfl, rfl, rfl, fun hx => by omega, fun hy => by omega⟩

/-- Settles O19: both maps are floors of linear maps whose slope is at least 1 on either variant. -/
theorem scaledNearestIndexArithmetic : Obligations.ScaledNearestIndexArithmetic := by
  intro v
  refine ⟨rfl, rfl, rfl, fun x y => ⟨rfl, rfl, rfl, ?_⟩, fun x x' hx => ?_, fun y y' hy => ?_, ?_⟩
  · rw [sourceX_scaledNearest, sourceY_scaledNearest]
    cases v with
    | variantA =>
      simp only [panelWidth_variantA, panelHeight_variantA]
      omega
    | variantB =>
      simp only [panelWidth_variantB, panelHeight_variantB]
      omega
  · simp only [sourceX_scaledNearest]
    cases v with
    | variantA | variantB =>
      simp only [panelWidth_variantA, panelWidth_variantB]
      omega
  · simp only [sourceY_scaledNearest]
    cases v with
    | variantA | variantB =>
      simp only [panelHeight_variantA, panelHeight_variantB]
      omega
  · cases v <;> decide

/-- Settles O20: entries of different rows differ, and a column of the window is a region column plus the offset. -/
theorem decimateIndexArithmetic : Obligations.DecimateIndexArithmetic := by
  intro v
  refine ⟨rfl, rfl, fun p => rfl, fun x y => ⟨rfl, rfl, rfl⟩, fun column row hc hr => ?_⟩
  simp only [dbIndex_integerDecimate2x]
  constructor
  · rintro ⟨x, y, hx, hy, h⟩
    cases v with
    | variantA | variantB =>
      simp only [panelWidth_variantA, panelWidth_variantB] at hc h ⊢
      omega
  · intro h
    refine ⟨column - (panelWidth v - 120) / 2, row, ?_⟩
    cases v with
    | variantA | variantB =>
      simp only [panelWidth_variantA, panelWidth_variantB] at hc h ⊢
      omega

/-- Settles O21: no region is wider than 184 or higher than 96, and no frame larger than the DisplayBuffer. -/
theorem scanRanges : Obligations.ScanRanges := by
  intro m v x y hx hy
  have hw := regionWidth_le m v
  have hh := regionHeight_le m v
  have hd := dbIndex_lt_bufSize m v hx hy
  have hcap : bufSize v ≤ 17664 := bufSize_le_dbCap v
  exact ⟨by omega, by omega, by omega, by omega, sourceX_le m v hx, sourceY_le m v hy, by omega, by omega⟩

/-- Settles O22: the DisplayBuffer index is injective on the region. -/
theorem noEntryIsWrittenTwice : Obligations.NoEntryIsWrittenTwice :=
  fun m v _ _ _ _ hx _ hx' _ h => dbIndex_injective m v hx hx' h

/-! ## A pixel step, and a scan left alone -/

/-- Settles O24: the pixel step inside the region piece by piece, or none where the address is not admitted. -/
theorem pixelStepWritesOneEntry : Obligations.PixelStepWritesOneEntry := by
  intro s hb hx hy
  have hc : s.CursorInside := ⟨hx, hy⟩
  refine ⟨fun ha => ⟨pixelStepped s, ?_, ?_, fun j hj => ?_, pixelStepped_cx hc, pixelStepped_cy hc,
    advanceCursor_done (dbWrite _ _ s) hb hx hy, rfl⟩, fun ha t ht => ?_⟩
  · exact (engineTurn_busy s hb).trans (pixelStep_eq hc ha)
  · rw [dbRead_pixelStepped, if_pos rfl]
  · rw [dbRead_pixelStepped, if_neg hj]
  · have stuck := unbackedPixelStepIsStuck.2 s hb ha
    rw [stuck] at ht
    cases ht

section LeftAlone
variable {s : State} {k : Nat}

/-- Every address of the scan stays admitted while only the engine moves. -/
theorem scanned_admitted (ha : s.AdmitsScan) (hc : (s.scanned k).CursorInside) :
    pixelStepAdmitted (s.scanned k) = true := by
  rw [State.CursorInside, scanned_lMode, scanned_variant] at hc
  rw [pixelStepAdmitted, scanned_srcAdmit, scanned_scanAddress]
  exact ha _ _ hc.1 hc.2

/-- A scan just accepted and left alone takes a pixel step at every step (R137, log 1). -/
theorem run_scanned (hb : s.busy = true) (hx : s.cx = 0) (hy : s.cy = 0) (hi : s.inputs = [])
    (ha : s.AdmitsScan) (hk : k ≤ s.scanLength) : Host.Core.run core k s = .next (s.scanned k) := by
  induction k with
  | zero => rfl
  | succ k ih =>
    obtain ⟨hc, hbusy⟩ := scanned_running hb hx hy hk
    have turn : step (s.scanned k) = .next (s.scanned (k + 1)) :=
      calc step (s.scanned k) = engineTurn (s.scanned k) := step_nil ((scanned_inputs s k).trans hi)
        _ = pixelStep (s.scanned k) := engineTurn_busy _ hbusy
        _ = .next (s.scanned (k + 1)) := pixelStep_eq hc (scanned_admitted ha hc)
    exact (run_add (ih (Nat.le_of_lt hk))).trans (run_one turn)

end LeftAlone

/-- Settles O27: every step of a scan left alone is a pixel step, and the last of them clears BUSY. -/
theorem scanRunsToCompletion : Obligations.ScanRunsToCompletion := by
  refine ⟨fun m v => ?_, fun s hb hx hy hi ha => ⟨fun k hk => ?_, ?_⟩⟩
  · cases m <;> cases v <;> decide
  · obtain ⟨hcx, hcy, -⟩ := scanned_cursor hb hx hy (Nat.le_of_lt hk)
    exact ⟨_, run_scanned hb hx hy hi ha (Nat.le_of_lt hk), (scanned_running hb hx hy hk).2, hcx, hcy⟩
  · exact ⟨_, run_scanned hb hx hy hi ha le_rfl, scanned_end hb hx hy⟩

/-- Settles O28: the CMD write accepts the scan, which is then left alone. -/
theorem scanCommandFillsTheDisplayBuffer : Obligations.ScanCommandFillsTheDisplayBuffer := by
  intro s i m hb hi hm ha
  have accepted : step (s.before (.portWrite .word 0x00 (encode i))) = .next (acceptScan m s) :=
    calc step (s.before (.portWrite .word 0x00 (encode i))) = issueCommand (encode i) s := step_before_cmd _ s
      _ = exec i s := issueCommand_of_decode (decode_eq_ok.2 rfl)
      _ = unlessBusy (acceptScan m) s := exec_of_scansWith hm
      _ = .next (acceptScan m s) := unlessBusy_idle _ s hb
  exact ⟨_, (run_add (run_one accepted)).trans (run_scanned rfl rfl rfl hi ha le_rfl),
    scanned_result (s := acceptScan m s) rfl rfl rfl, scanned_end (s := acceptScan m s) rfl rfl rfl⟩

/-! ## A running scan among the actions of the other agents -/

section Interleaving
variable {s t u : State} {e : Input}

/-- `s` with `l` as source memory. -/
def State.withSource (s : State) (l : Memory 32) : State := { s with src := l }

/-- The scan's part of the state with the same other source memory on both sides. -/
theorem State.SameScan.withSource (l : Memory 32) (h : s.SameScan t) : (s.withSource l).SameScan (t.withSource l) :=
  { h with src := rfl }

/-- Up to source memory an action on a running scan, but for reset, leaves the scan as it was or is a pixel step:
the configuration is locked, and no scan is accepted. -/
theorem Effect.running (h : Effect s e t) (hb : s.busy = true) (hl : s.locked = true) (he : e ≠ .reset) :
    (s.withSource t.src).SameScan t ∨ ((pixelStepped s).withSource t.src).SameScan t := by
  cases h with
  | stepped _ _ hp =>
    obtain ⟨-, -, rfl⟩ := (pixelStep_next s t).1 hp
    exact .inr (by constructor <;> rfl)
  | configured _ hu => simp [hl] at hu
  | accepted _ _ hi => simp [hb] at hi
  | wasReset => exact absurd rfl he
  | ignored | answered | polled | rejected | acknowledged | setBase | setStride | setLane | converted | produced
  | backed => exact .inl (by constructor <;> rfl)

/-- The same of a step: the actions waiting are no part of the scan. -/
theorem step_running (h : step s = .next t) (hs : s.Inv) (hb : s.busy = true) (hr : s.inputs.head? ≠ some .reset) :
    (s.withSource t.src).SameScan t ∨ ((pixelStepped s).withSource t.src).SameScan t :=
  ((step_effect h).running hb (hs.busy_locked hb) fun he => hr (head?_of_nextAction he (by decide))).imp
    (fun h => { h with }) (fun h => { h with })

/-- The positions written are those of the scan's part of the state. -/
theorem State.SameScan.writtenSoFar (h : s.SameScan t) (hs : s.WrittenSoFar) : t.WrittenSoFar := by
  intro x y hx hxy
  rw [h.lMode, h.variant] at hx
  rw [h.cx, h.cy] at hxy
  have hw := hs x y hx hxy
  rw [State.Written, scanAddress, srcMem] at hw ⊢
  rwa [dbRead_congr _ h.db, h.lMode, h.variant, h.lBase, h.lStride, h.src]

/-- A pixel step reads of source memory only the pixel at its own address. -/
theorem pixelStepped_withSource {l : Memory 32}
    (h : srcMem (scanAddress s s.cx.toNat s.cy.toNat) (s.withSource l) =
      srcMem (scanAddress s s.cx.toNat s.cy.toNat) s) :
    pixelStepped (s.withSource l) = (pixelStepped s).withSource l :=
  congrArg (fun p => advanceCursor (dbWrite (dbIndex s.lMode s.variant s.cx.toNat s.cy.toNat)
    (converterOf s.lMode p) (s.withSource l))) h

/-- Once the cursor is below the region, the whole region is before it. -/
theorem State.WrittenSoFar.frameWritten (hs : s.WrittenSoFar)
    (hy : regionHeight s.lMode s.variant ≤ s.cy.toNat) : s.FrameWritten :=
  fun x y hx hyh => hs x y hx (.inl (hyh.trans_le hy))

/-- The source pixels that the scan of `s` reads are in `u` what they are in `s`. -/
def State.SameSourcePixels (s u : State) : Prop :=
  ∀ x y, x < regionWidth s.lMode s.variant → y < regionHeight s.lMode s.variant →
    srcMem (scanAddress s x y) u = srcMem (scanAddress s x y) s

/-- `u` is a later state of the scan that is running in `s`: the latches and the variant are those of `s`, the
positions before the cursor hold the conversions of the source pixels of `s`, the entries outside the region are those
of `s`, and BUSY = 0 only with the cursor below the region. -/
structure State.Progress (s u : State) : Prop where
  lMode : u.lMode = s.lMode
  variant : u.variant = s.variant
  lBase : u.lBase = s.lBase
  lStride : u.lStride = s.lStride
  written : (u.withSource s.src).WrittenSoFar
  outside : ∀ i, (∀ x y, x < regionWidth s.lMode s.variant → y < regionHeight s.lMode s.variant →
    i ≠ dbIndex s.lMode s.variant x y) → dbRead i u = dbRead i s
  ended : u.busy = false → regionHeight u.lMode u.variant ≤ u.cy.toNat

/-- A running scan whose positions before the cursor are written is its own earliest state. -/
theorem State.Progress.refl (hb : s.busy = true) (hs : s.WrittenSoFar) : s.Progress s where
  lMode := rfl
  variant := rfl
  lBase := rfl
  lStride := rfl
  written := hs
  outside _ _ := rfl
  ended h := absurd h (by simp [hb])

/-- Every state of the scan computes the same addresses. -/
theorem State.Progress.scanAddress_eq (h : s.Progress u) (x y : Nat) : scanAddress u x y = scanAddress s x y := by
  rw [scanAddress, h.lMode, h.variant, h.lBase, h.lStride, ← scanAddress]

/-- An action that leaves the scan as it was up to source memory keeps its progress. -/
theorem State.Progress.kept (h : s.Progress u) (hk : (u.withSource t.src).SameScan t) : s.Progress t where
  lMode := hk.lMode.trans h.lMode
  variant := hk.variant.trans h.variant
  lBase := hk.lBase.trans h.lBase
  lStride := hk.lStride.trans h.lStride
  written := (hk.withSource s.src).writtenSoFar h.written
  outside i hi := (dbRead_congr i hk.db).trans (h.outside i hi)
  ended := by
    rw [hk.busy, hk.lMode, hk.variant, hk.cy]
    exact h.ended

/-- A pixel step that finds its source pixel as it was carries the scan one position on. -/
theorem State.Progress.afterPixelStep (h : s.Progress u) (hb : u.busy = true) (hc : u.CursorInside)
    (hsrc : srcMem (scanAddress u u.cx.toNat u.cy.toNat) u = srcMem (scanAddress u u.cx.toNat u.cy.toNat) s) :
    s.Progress (pixelStepped u) where
  lMode := h.lMode
  variant := h.variant
  lBase := h.lBase
  lStride := h.lStride
  written := by
    rw [← pixelStepped_withSource hsrc.symm]
    exact pixelStepped_writtenSoFar hc h.written
  outside i hi := by
    have hne : i ≠ dbIndex u.lMode u.variant u.cx.toNat u.cy.toNat := by
      obtain ⟨hx, hy⟩ := hc
      rw [h.lMode, h.variant] at hx hy ⊢
      exact hi _ _ hx hy
    rw [dbRead_pixelStepped, if_neg hne]
    exact h.outside i hi
  ended hd := by
    rw [pixelStepped_busy hb hc] at hd
    exact Nat.le_of_not_lt (of_decide_eq_false hd)

/-- Every step of a running scan but reset keeps its progress, if the source pixels it reads are as they were. -/
theorem State.Progress.afterStep (h : s.Progress u) (hu : u.Inv) (hb : u.busy = true)
    (hr : u.inputs.head? ≠ some .reset)
    (hsrc : s.SameSourcePixels u)
    (hstep : step u = .next t) : s.Progress t := by
  rcases step_running hstep hu hb hr with hk | hk
  · exact h.kept hk
  · have hc : u.CursorInside := ⟨hu.cursor_column hb, hu.cursor_row hb⟩
    refine (h.afterPixelStep hb hc ?_).kept hk
    obtain ⟨hx, hy⟩ := hc
    rw [h.lMode, h.variant] at hx hy
    rw [h.scanAddress_eq]
    exact hsrc _ _ hx hy

/-- When the scan is over, the whole region holds the conversions of the source pixels of its earliest state. -/
theorem State.Progress.frameWritten (h : s.Progress t) (hb : t.busy = false) :
    (t.withSource s.src).FrameWritten :=
  h.written.frameWritten (h.ended hb)

/-- So the scan has R145's result. -/
theorem State.Progress.scanResult (h : s.Progress t) (hb : t.busy = false) :
    ScanResult s.lMode s.variant (sourceImage s.lBase s.lStride s) s t := by
  refine scanResult_of_written (fun x y hx hy => ?_) h.outside
  rw [← h.lMode, ← h.variant] at hx hy
  have hw : dbRead (dbIndex t.lMode t.variant x y) t =
      converterOf t.lMode (srcMem (scanAddress t x y) s) := h.frameWritten hb x y hx hy
  rwa [h.scanAddress_eq, h.lMode, h.variant] at hw

/-- The progress of a scan along a run without reset and with the source pixels it reads as they were. -/
theorem State.Progress.afterRun {n : Nat} (hs : s.Inv) (h₀ : s.Progress s)
    (hrun : ∀ k, k < n → ∃ u : State, Host.Core.run core k s = .next u ∧ u.busy = true ∧
      u.inputs.head? ≠ some .reset ∧ s.SameSourcePixels u)
    (ht : Host.Core.run core n s = .next t) : t.Inv ∧ s.Progress t := by
  induction n generalizing t with
  | zero =>
    cases ht
    exact ⟨hs, h₀⟩
  | succ n ih =>
    obtain ⟨u, hu, hb, hr, hsrc⟩ := hrun n (Nat.lt_succ_self n)
    obtain ⟨hinv, hp⟩ := ih (fun k hk => hrun k (Nat.lt_succ_of_lt hk)) hu
    rw [run_add hu] at ht
    obtain ⟨t', hstep, ht'⟩ := run_succ_next ht
    cases ht'
    exact ⟨everyStepKeepsTheInvariant u _ hinv hstep, hp.afterStep hinv hb hr hsrc hstep⟩

end Interleaving

/-- Settles O30: a step that is no producer's store leaves source memory, so the progress made from `s` is that of the
next state's own positions. -/
theorem writtenEntriesStayWritten : Obligations.WrittenEntriesStayWritten := by
  intro s t hs hb hw hp hr h
  have hsrc : t.src = s.src := by
    by_contra hne
    obtain ⟨a, p, he, -⟩ := onlyTheProducerChangesTheSource s t h hne
    exact hp a p he
  have hprog := (State.Progress.refl hb hw).afterStep hs hb hr (fun _ _ _ _ => rfl) h
  have hself : t.withSource s.src = t := by rw [← hsrc]; rfl
  refine ⟨everyStepKeepsTheInvariant s t hs h, fun _ => ?_, fun hd => ?_⟩
  · exact hself ▸ hprog.written
  · exact hself ▸ hprog.frameWritten hd

/-- Settles O29: the progress along the run, at its end. -/
theorem scanResultUnderAnyInterleaving : Obligations.ScanResultUnderAnyInterleaving :=
  fun _ _ _ hs hb hw hrun ht hd => (State.Progress.afterRun hs (.refl hb hw) hrun ht).2.scanResult hd

end Sys2Proof.Machine
end

section
/-! PROOFS for the statements of spec/42_system.md: NOP, and host accesses target by target, the named registers at
their own offsets and the reserved offsets in between. -/

namespace Sys2Proof.Machine

/-- Settles O7: NOP is the empty effect behind the check of BUSY. -/
theorem nopChangesNothing : Obligations.NopChangesNothing :=
  ⟨rfl, fun s => (exec_nop s).trans (unlessBusy_eq s fun s => s)⟩

/-! ## Reserved offsets -/

section Reserved
variable {offset : Nat} (w : Word) (s : State)

/-- An aligned offset of the space that is no register's is reserved (R37). -/
theorem portTarget_eq_reserved (ha : offset % 4 = 0) (hlt : offset < Config.regSpace)
    (hr : ∀ r, offset ≠ registerOffset r) : portTarget .word offset = some .reserved := by
  obtain ⟨g, hg⟩ := portTarget_eq_some (width := .word) (offset := offset) (by simp [portAccessWf, ha, hlt])
  cases g with
  | reserved => exact hg
  | reg r => exact absurd (portTarget_reg hg).2 (hr r)

/-- The register map leaves open 0x1C, 0x28, 0x2C and everything from 0x50 on (R21). -/
theorem registerOffset_mapped (r : Reg) :
    registerOffset r ≠ 0x1C ∧ registerOffset r ≠ 0x28 ∧ registerOffset r ≠ 0x2C ∧ registerOffset r < 0x50 := by
  cases r with
  | pixIn i | pixOut i => simp only [registerOffset]; omega
  | cmd | status | cfg | rmode | panelW | panelH | bufSize | srcBase | srcStride => decide

/-- The offsets that R171 and R172 name as reserved reach no register. -/
theorem portTarget_reserved (ha : offset % 4 = 0)
    (ho : offset = 0x1C ∨ offset = 0x28 ∨ offset = 0x2C ∨ 0x50 ≤ offset ∧ offset ≤ 0xFC) :
    portTarget .word offset = some .reserved := by
  have hlt : offset < 0x100 := by omega
  refine portTarget_eq_reserved ha hlt fun r hr => ?_
  have := registerOffset_mapped r
  omega

/-- A host write at a reserved offset is ignored (R37). -/
theorem step_before_writeReserved (h : portTarget .word offset = some .reserved) :
    step (s.before (.portWrite .word offset w)) = .next s := by
  simp only [step_before, perform, portWrite, h, writeTarget]

/-- A host read at a reserved offset hands back 0 (R37). -/
theorem readsAs_reserved (h : portTarget .word offset = some .reserved) : s.ReadsAs offset 0 := by
  simp only [State.ReadsAs, step_before, perform, portRead, h, readTarget, answer]

end Reserved

/-! ## Host writes -/

section Writes
variable (w : Word) (s : State)

/-- Raising ERR_LOCK sets ERR_LOCK and nothing else. -/
theorem raiseError_errLock_eq : raiseError .errLock s = { s with errLock := true } := by
  simp [raiseError]

/-- A CMD write, in the order of R94's checks. -/
theorem issueCommand_eq :
    issueCommand w s =
      if s.busy then .next { s with errBusy := true }
      else match decode w with
        | .ok i => exec i s
        | .error _ => .next { s with errIll := true } := by
  by_cases hb : s.busy = true
  · rw [issueCommand_busy w hb, raiseError_errBusy_eq, if_pos hb]
  · rw [if_neg hb]
    rw [Bool.not_eq_true] at hb
    cases hd : decode w with
    | ok i => exact issueCommand_command hb hd
    | error e => exact (issueCommand_illegal hb ⟨e, hd⟩).trans (congrArg _ (raiseError_errIll_eq s))

/-- A CFG write sets the two fields, or ERR_LOCK alone once LOCKED (R26, R185). -/
theorem writeCfg_eq :
    writeCfg w s =
      if s.locked then { s with errLock := true }
      else { s with variant := if w.getLsbD 0 then .variantB else .variantA, scaled := w.getLsbD 1 } := by
  obtain ⟨hl, h⟩ | ⟨hl, h⟩ := writeCfg_cases w s
  · rw [h, raiseError_errLock_eq, if_pos hl]
  · rw [h, if_neg (Bool.eq_false_iff.1 hl)]
    rfl

end Writes

/-- Settles O32: every register by its own write, the reserved offsets together. -/
theorem hostWriteEffects : Obligations.HostWriteEffects := by
  intro s w
  have write (r : Reg) := step_before_writeRegister r w s
  refine ⟨(write .cmd).trans (issueCommand_eq w s), write .status,
    (write .cfg).trans (congrArg _ (writeCfg_eq w s)), ?_, write .srcBase, write .srcStride,
    write (.pixIn 0), write (.pixIn 1), write (.pixIn 2), write (.pixIn 3), ?_, fun offset ha ho => ?_⟩
  · rintro offset (rfl | rfl | rfl | rfl)
    exacts [write .rmode, write .panelW, write .panelH, write .bufSize]
  · rintro offset (rfl | rfl | rfl | rfl)
    exacts [write (.pixOut 0), write (.pixOut 1), write (.pixOut 2), write (.pixOut 3)]
  · exact step_before_writeReserved w s (portTarget_reserved ha ho)

/-! ## Host reads -/

section Reads
variable (s : State)

/-- A bit of a register's word, as a shifted one-bit vector. -/
theorem bitAt_eq_ofBool (n : Nat) (b : Bool) : bitAt n b = (BitVec.ofBool b).setWidth 32 <<< n := by
  cases b with
  | false => simp [bitAt]
  | true => rfl

/-- STATUS by its fields (R23). -/
theorem statusWord_eq :
    statusWord s =
      (BitVec.ofBool s.busy).setWidth 32 ||| (BitVec.ofBool s.locked).setWidth 32 <<< 1 |||
        (BitVec.ofBool s.errIll).setWidth 32 <<< 8 ||| (BitVec.ofBool s.errBusy).setWidth 32 <<< 9 |||
        (BitVec.ofBool s.errLock).setWidth 32 <<< 10 := by
  simp only [statusWord, bitAt_eq_ofBool, BitVec.shiftLeft_zero]

/-- CFG by its fields (R24). -/
theorem cfgWord_eq :
    cfgWord s = (if s.variant = .variantB then 1 else 0) ||| (if s.scaled then 1 else 0) <<< 1 := by
  rw [cfgWord]
  cases s.variant <;> cases s.scaled <;> rfl

/-- RMODE by the fields of CFG (R130). -/
theorem select_code_eq :
    (select s.variant s.scaled).code = if s.variant = .variantB then 2 else if s.scaled then 1 else 0 := by
  cases s.variant with
  | variantB => rfl
  | variantA => cases s.scaled <;> rfl

/-- PANEL_W by the variant (R28). -/
theorem panelWidth_word (v : PanelVariant) :
    BitVec.ofNat 32 (panelWidth v) = if v = .variantA then 184 else 160 := by
  cases v <;> rfl

/-- PANEL_H by the variant (R28). -/
theorem panelHeight_word (v : PanelVariant) :
    BitVec.ofNat 32 (panelHeight v) = if v = .variantA then 96 else 80 := by
  cases v <;> rfl

/-- BUF_SIZE by the variant (R28). -/
theorem bufSize_word (v : PanelVariant) :
    BitVec.ofNat 32 (bufSize v) = if v = .variantA then 17664 else 12800 := by
  cases v <;> rfl

end Reads

/-- Settles O33: every register by its own value, the reserved offsets together. -/
theorem hostReadValues : Obligations.HostReadValues := by
  intro s
  have read (r : Reg) := readsAs_registerOffset r s rfl
  exact ⟨read .cmd, readsAs_registerOffset .status s (statusWord_eq s),
    readsAs_registerOffset .cfg s (cfgWord_eq s), readsAs_registerOffset .rmode s (select_code_eq s),
    readsAs_registerOffset .panelW s (panelWidth_word s.variant),
    readsAs_registerOffset .panelH s (panelHeight_word s.variant),
    readsAs_registerOffset .bufSize s (bufSize_word s.variant),
    read .srcBase, read .srcStride, read (.pixIn 0), read (.pixIn 1), read (.pixIn 2), read (.pixIn 3),
    read (.pixOut 0), read (.pixOut 1), read (.pixOut 2), read (.pixOut 3),
    fun offset ha ho => readsAs_reserved s (portTarget_reserved ha ho)⟩

end Sys2Proof.Machine
end

section
/-! PROOFS for the statements of spec/60_exceptions.md: what raising an error does, the errors of a CMD and of a CFG
write, the engine's idle turn, and that a step which turns an error flag on has raised exactly that error. -/

namespace Sys2Proof.Machine

/-! ## The error flags -/

section ErrorFlags
variable {e : Input} {s t : State} {f g : ErrorFlag}

/-- Raising an error turns on its own flag and keeps the others (R182). -/
theorem errorFlag_raiseError (g f : ErrorFlag) (s : State) :
    errorFlag f (raiseError g s) = (errorFlag f s || decide (f = g)) := by
  cases f with
  | errIll | errBusy | errLock => simp [errorFlag, beq_eq_decide, eq_comm]

/-- A flag that raising an error turns on is that error's flag. -/
theorem eq_of_raiseError (h₀ : errorFlag f s = false) (h₁ : errorFlag f (raiseError g s) = true) : f = g := by
  simpa [errorFlag_raiseError, h₀] using h₁

/-- Acknowledging turns no flag on (R189). -/
theorem errorFlag_of_ackErrors {w : Word} (h : errorFlag f (ackErrors w s) = true) : errorFlag f s = true := by
  cases f with
  | errIll | errBusy | errLock => exact (Bool.and_eq_true_iff.1 h).1

/-- Reset clears every flag (R211). -/
theorem errorFlag_applyReset (f : ErrorFlag) (s : State) : errorFlag f (applyReset s) = false := by
  cases f with
  | errIll | errBusy | errLock => rfl

/-- An action that turns on a flag has raised that error and done nothing else: of all effects only a rejection turns
a flag on, and a rejection raises one error. -/
theorem Effect.eq_raiseError (h : Effect s e t) (h₀ : errorFlag f s = false) (h₁ : errorFlag f t = true) :
    t = raiseError f s := by
  cases h with
  | rejected g => rw [eq_of_raiseError h₀ h₁]
  | acknowledged w => exact absurd (h₀.symm.trans (errorFlag_of_ackErrors h₁)) Bool.false_ne_true
  | wasReset => exact absurd ((errorFlag_applyReset f s).symm.trans h₁) Bool.false_ne_true
  | stepped _ _ hp =>
    obtain ⟨_, _, rfl⟩ := (pixelStep_next s t).1 hp
    exact absurd (h₀.symm.trans h₁) Bool.false_ne_true
  | ignored | answered | polled | configured | setBase | setStride | setLane | converted | accepted | produced
    | backed => exact absurd (h₀.symm.trans h₁) Bool.false_ne_true

/-- A step that turns on a flag has taken the next action off the list and raised that error, nothing else. -/
theorem step_eq_raiseError (h : step s = .next t) (h₀ : errorFlag f s = false) (h₁ : errorFlag f t = true) :
    t = raiseError f { s with inputs := s.inputs.tail } :=
  (step_effect h).eq_raiseError h₀ h₁

end ErrorFlags

/-- Settles O44: the step has raised the one error, and the other flag is on because of that. -/
theorem oneStepRaisesAtMostOneError : Obligations.OneStepRaisesAtMostOneError := by
  intro s t e f h he₀ he₁ hf₀ hf₁
  obtain rfl := step_eq_raiseError h he₀ he₁
  exact (eq_of_raiseError hf₀ hf₁).symm

/-- Settles O26: the idle turn, and the action a step performs when none is waiting. -/
theorem idleEngineTakesNoStep : Obligations.IdleEngineTakesNoStep :=
  ⟨engineTurn_idle, fun _ => step_nil⟩

/-- Settles O41: the flags by their law, the other fields by the definition. -/
theorem raisingSetsOneFlagOnly : Obligations.RaisingSetsOneFlagOnly :=
  fun e f s => ⟨errorFlag_raiseError e f s, rfl⟩

/-- Settles O42: the first check of a CMD write, and its repetition in every command (log 9). -/
theorem anyCommandWhileBusyIsRejected : Obligations.AnyCommandWhileBusyIsRejected := by
  intro s hb
  rw [← raiseError_errBusy_eq]
  exact ⟨fun w => (step_before_cmd w s).trans (issueCommand_busy w hb), fun i => exec_busy i hb⟩

/-- Settles O43: the locked branch of a CFG write, whatever the word. -/
theorem cfgWriteWhileLockedIsRejected : Obligations.CfgWriteWhileLockedIsRejected := by
  intro s w hl
  have hw : writeCfg w s = { s with errLock := true } := by rw [writeCfg_eq, if_pos hl]
  exact (step_before_writeRegister .cfg w s).trans (congrArg _ hw)

end Sys2Proof.Machine
end

section
/-! PROOFS for the statements of spec/70_reset_and_hazards.md: what reset restores, the entries beyond the frame, and
the borders of the IntegerDecimate2x window. -/

namespace Sys2Proof.Machine

/-! ## Reset -/

/-- Settles O46: reset is one action that answers from every state, lists no DisplayBuffer byte and keeps the source. -/
theorem resetRestoresEverything : Obligations.ResetRestoresEverything :=
  fun s => ⟨applyReset s, step_before s .reset, rfl, fun i _ => dbRead_of_db_nil i rfl, fun _ => rfl⟩

/-! ## The entries beyond the frame -/

section BeyondTheFrame
variable {s : State} {i : Nat}

/-- An address that no cell has reads as the default. -/
theorem Memory.read_of_not_listed {w : Nat} {m : Memory w} {a : Nat} (h : ∀ c ∈ m, c.1 ≠ a) :
    Memory.read m a = unlisted w := by
  have hnone : m.find? (fun c => c.1 == a) = none := List.find?_eq_none.2 (by simpa using h)
  rw [Memory.read, hnone]

/-- The invariant lists no byte beyond the frame, so such a byte reads 0. -/
theorem State.Inv.dbByte_beyond_frame {k : Nat} (hs : s.Inv) (hk : 2 * bufSize s.variant ≤ k) : dbByte k s = 0 :=
  Memory.read_of_not_listed fun c hc => ((hs.db_frame c hc).trans_le hk).ne

/-- On either variant the entries beyond the frame read 0. -/
theorem State.Inv.dbRead_beyond_frame (hs : s.Inv) (hi : bufSize s.variant ≤ i) : dbRead i s = 0 := by
  rw [dbRead, hs.dbByte_beyond_frame (by omega), hs.dbByte_beyond_frame (by omega)]
  rfl

end BeyondTheFrame

/-- Settles O50: the frame of VariantB has 160 * 80 = 12800 entries. -/
theorem entriesBeyondTheFrameAreZero : Obligations.EntriesBeyondTheFrameAreZero := by
  intro s i hs hv hi _
  have hframe : bufSize s.variant = 12800 := by rw [hv]; rfl
  exact hs.dbRead_beyond_frame (hframe.trans_le hi)

/-! ## The borders of the IntegerDecimate2x window -/

section Borders
variable {s t : State} {e : Input}

/-- Zero borders are a fact about the scan's part of the state. -/
theorem State.SameScan.bordersZero (h : s.SameScan t) (hz : s.BordersZero) : t.BordersZero := by
  refine ⟨?_, fun i hi => ?_⟩
  · rw [h.busy, h.lMode]
    exact hz.1
  · rw [h.variant] at hi
    exact (dbRead_congr i h.db).trans (hz.2 i hi)

/-- An idle block with nothing listed in the DisplayBuffer has zero borders, on either variant. -/
theorem bordersZero_of_idle_of_db_nil (hb : s.busy = false) (hdb : s.db = []) : s.BordersZero :=
  ⟨fun h => absurd h (by simp [hb]), fun i _ => dbRead_of_db_nil i hdb⟩

/-- An unlocked block is idle. -/
theorem State.Inv.idle_of_unlocked (hs : s.Inv) (hl : s.locked = false) : s.busy = false :=
  Bool.eq_false_iff.2 fun hb => by simp [hs.busy_locked hb] at hl

/-- A CFG write that is taken may move the window: the whole DisplayBuffer is still as reset left it. -/
theorem setCfg_bordersZero (w : Word) (hs : s.Inv) (hl : s.locked = false) : (setCfg w s).BordersZero :=
  bordersZero_of_idle_of_db_nil (hs.idle_of_unlocked hl) (hs.db_unlocked hl)

/-- Accepting an IntegerDecimate2x scan writes no entry. -/
theorem acceptScan_bordersZero (hz : s.BordersZero) : (acceptScan .integerDecimate2x s).BordersZero :=
  ⟨fun _ => rfl, hz.2⟩

/-- A running scan with zero borders is an IntegerDecimate2x scan, whose pixel step writes inside the window. -/
theorem pixelStepped_bordersZero (hb : s.busy = true) (hc : s.CursorInside) (hz : s.BordersZero) :
    (pixelStepped s).BordersZero := by
  obtain ⟨hmode, hzero⟩ := hz
  have hm : s.lMode = .integerDecimate2x := hmode hb
  obtain ⟨hx, hy⟩ := hc
  refine ⟨fun _ => hm, fun i hi => ?_⟩
  have hne : i ≠ dbIndex s.lMode s.variant s.cx.toNat s.cy.toNat := by
    rw [hm] at hx hy ⊢
    exact hi _ _ hx hy
  rw [dbRead_pixelStepped, if_neg hne]
  exact hzero i hi

/-- Action `e`, performed in `s`, is no CMD write that starts a scan with another strategy. -/
def OnlyDecimates (s : State) (e : Input) : Prop :=
  ∀ i m, e = .portWrite .word 0x00 (encode i) → ScansWith s i m → m = .integerDecimate2x

/-- The words that start a scan with another strategy are CROP's, SCALE's, and RUN's where it selects one. -/
theorem onlyDecimates_of_word
    (h : ∀ w, e = .portWrite .word 0x00 w → w ≠ 0x00000020 ∧ w ≠ 0x00000021 ∧
      (w = 0x00000023 → select s.variant s.scaled = .integerDecimate2x)) : OnlyDecimates s e := by
  intro i m he hm
  obtain ⟨hcrop, hscale, hrun⟩ := h _ he
  obtain ⟨rfl, rfl⟩ | ⟨rfl, rfl⟩ | ⟨rfl, rfl⟩ | ⟨rfl, rfl⟩ := hm
  · exact absurd rfl hcrop
  · exact absurd rfl hscale
  · rfl
  · exact hrun rfl

/-- The scan that a CMD write starts is that of the command whose word was written. -/
theorem exists_scansWith {w : Word} {m : RenderMode}
    (h : decode w = .ok .crop ∧ m = .crop ∨ decode w = .ok .scale ∧ m = .scaledNearest ∨
      decode w = .ok .decim2 ∧ m = .integerDecimate2x ∨ decode w = .ok .run ∧ m = select s.variant s.scaled) :
    ∃ i, w = encode i ∧ ScansWith s i m := by
  obtain ⟨hd, hm⟩ | ⟨hd, hm⟩ | ⟨hd, hm⟩ | ⟨hd, hm⟩ := h
  · exact ⟨.crop, decode_eq_ok.1 hd, .inl ⟨rfl, hm⟩⟩
  · exact ⟨.scale, decode_eq_ok.1 hd, .inr (.inl ⟨rfl, hm⟩)⟩
  · exact ⟨.decim2, decode_eq_ok.1 hd, .inr (.inr (.inl ⟨rfl, hm⟩))⟩
  · exact ⟨.run, decode_eq_ok.1 hd, .inr (.inr (.inr ⟨rfl, hm⟩))⟩

/-- Every action that starts no scan with another strategy keeps the borders zero. -/
theorem Effect.bordersZero (h : Effect s e t) (hs : s.Inv) (hz : s.BordersZero) (he : OnlyDecimates s e) :
    t.BordersZero := by
  cases h with
  | configured w hl => exact setCfg_bordersZero w hs hl
  | accepted w m _ hm =>
    obtain ⟨i, rfl, hi⟩ := exists_scansWith hm
    rw [he i m rfl hi]
    exact acceptScan_bordersZero hz
  | stepped _ hb hp =>
    obtain ⟨-, -, rfl⟩ := (pixelStep_next s t).1 hp
    exact pixelStepped_bordersZero hb ⟨hs.cursor_column hb, hs.cursor_row hb⟩ hz
  | produced a p => exact ⟨hz.1, hz.2⟩
  | wasReset => exact bordersZero_of_idle_of_db_nil rfl rfl
  | ignored | answered | polled | rejected | acknowledged | setBase | setStride | setLane | converted | backed =>
    exact State.SameScan.bordersZero (by constructor <;> rfl) hz

end Borders

/-- Settles O49: a step is one action on the state without it, and of all actions only the acceptance of another
strategy's scan could lead to a write outside the window. -/
theorem bordersStayZeroUnderDecimation : Obligations.BordersStayZeroUnderDecimation := by
  intro s t hs hz hcmd h
  refine (step_effect h).bordersZero (hs.setInputs _) ⟨hz.1, hz.2⟩ (onlyDecimates_of_word fun w he => ?_)
  exact hcmd w (head?_of_nextAction he (by simp))

end Sys2Proof.Machine
end
